-- ==== Sys2Proof/Word.lean ====
section
/-! DEFINITION. The two widths of the machine (00_scope.md R5, R7): bytes and 16-bit words. -/

namespace Sys2Proof

/-- An 8-bit value: a register half, a memory byte, an immediate (00_scope.md R5, R7). -/
abbrev Byte := BitVec 8

/-- A 16-bit value: a register pair, SP, PC, an address (00_scope.md R5, R7). -/
abbrev Word := BitVec 16

end Sys2Proof
end

