-- ==== Sys2Proof/Machine/Bits.lean ====
section
/-! DEFINITION. Byte order, sign extension and bit-field helpers (00_scope.md R7). -/

namespace Sys2Proof

/-- `hi(w)`, bits 15..8 (00_scope.md R7). -/
def hi (w : Word) : Byte := w.extractLsb' 8 8

/-- `lo(w)`, bits 7..0 (00_scope.md R7). -/
def lo (w : Word) : Byte := w.extractLsb' 0 8

/-- `h:l`, the word h·256 + l (00_scope.md R7). -/
def join (h l : Byte) : Word := h ++ l

/-- `sext_8(v)` as a 16-bit value, for additions modulo 2^16 (00_scope.md R7). -/
def sext (b : Byte) : Word := b.signExtend 16

/-- The two nibbles of a byte exchanged (46_misc.md R244). -/
def swapNibbles (v : Byte) : Byte := ((v &&& 0x0F) <<< 4) ||| (v >>> 4)

/-- The byte shifted left by one with the carry moved into bit 0 (43_bit_rotate.md R202, R203). -/
def rotateLeft (v : Byte) (carry : Bool) : Byte := (v <<< 1) ||| (if carry then 1 else 0)

end Sys2Proof
end

