-- ==== Sys2Proof/Syntax.lean ====
section
/-! DEFINITION. The syntax of the instruction set: operand labels and ONE inductive with a constructor for each of the 299 rows of
spec/opcode_table.json (30_encoding.md R87, R90, R91).

A constructor is named after the manual's spelling of its row (R94), with underscores between the mnemonic and its operands and `at`
for the parentheses of a memory operand: `ld_atHLinc_A` is LD (HL+),A. Operands d8, e8 and a8 are the raw operand byte, d16 and a16 the
assembled word (R83); the sign of an e8 and the 0xFF00 of an a8 are applied where the operand is used (log entry 15). -/

namespace Sys2Proof

/-- The 8-bit operand registers of an instruction (30_encoding.md R82, field `r` without its value 6). F is no operand of any row. -/
inductive Reg
  | b | c | d | e | h | l | a
deriving DecidableEq, Repr

/-- The 16-bit operands of loads, INC, DEC and ADD HL (30_encoding.md R82, field `rr`). -/
inductive Pair
  | bc | de | hl | sp
deriving DecidableEq, Repr

/-- The 16-bit operands of PUSH and POP (30_encoding.md R82, field `qq`). -/
inductive StackPair
  | bc | de | hl | af
deriving DecidableEq, Repr

/-- The pairs that address memory in LD (rr),A and LD A,(rr) (40_nop_load.md R126, R127). -/
inductive IndPair
  | bc | de
deriving DecidableEq, Repr

/-- The four conditions (10_state.md R32; 30_encoding.md R82, field `cc`). -/
inductive Cond
  | nz | z | nc | c
deriving DecidableEq, Repr

/-- The admitted 8-bit ALU operations (30_encoding.md R82, field `alu`; SBC is not admitted). -/
inductive Alu
  | add | adc | sub | and | xor | or | cp
deriving DecidableEq, Repr

/-- The four flags (10_state.md R24). -/
inductive Flag
  | z | n | h | c
deriving DecidableEq, Repr

/-- The eight 8-bit register labels of the host's calls (10_state.md R31; 50_cpu_driver.md R259). -/
inductive Reg8
  | a | f | b | c | d | e | h | l
deriving DecidableEq, Repr

/-- The 16-bit labels of the host's calls, PC among them (10_state.md R31; 50_cpu_driver.md R259). -/
inductive Reg16
  | af | bc | de | hl | sp | pc
deriving DecidableEq, Repr

/-- A decoded instruction: one constructor for each row of spec/opcode_table.json. -/
inductive Instr
  /-- NOP, 00 (R120) -/
  | nop
  /-- LD BC,d16, 01 (R138) -/
  | ld_BC_d16 (w : Word)
  /-- LD (BC),A, 02 (R126) -/
  | ld_atBC_A
  /-- INC BC, 03 (R194) -/
  | inc_BC
  /-- INC B, 04 (R190) -/
  | inc_B
  /-- DEC B, 05 (R192) -/
  | dec_B
  /-- LD B,d8, 06 (R124) -/
  | ld_B_d8 (n : Byte)
  /-- LD (a16),SP, 08 (R139) -/
  | ld_atA16_SP (w : Word)
  /-- ADD HL,BC, 09 (R182) -/
  | add_HL_BC
  /-- LD A,(BC), 0A (R127) -/
  | ld_A_atBC
  /-- DEC BC, 0B (R195) -/
  | dec_BC
  /-- INC C, 0C (R190) -/
  | inc_C
  /-- DEC C, 0D (R192) -/
  | dec_C
  /-- LD C,d8, 0E (R124) -/
  | ld_C_d8 (n : Byte)
  /-- LD DE,d16, 11 (R138) -/
  | ld_DE_d16 (w : Word)
  /-- LD (DE),A, 12 (R126) -/
  | ld_atDE_A
  /-- INC DE, 13 (R194) -/
  | inc_DE
  /-- INC D, 14 (R190) -/
  | inc_D
  /-- DEC D, 15 (R192) -/
  | dec_D
  /-- LD D,d8, 16 (R124) -/
  | ld_D_d8 (n : Byte)
  /-- RLA, 17 (R203) -/
  | rla
  /-- JR e8, 18 (R210) -/
  | jr_e8 (n : Byte)
  /-- ADD HL,DE, 19 (R182) -/
  | add_HL_DE
  /-- LD A,(DE), 1A (R127) -/
  | ld_A_atDE
  /-- DEC DE, 1B (R195) -/
  | dec_DE
  /-- INC E, 1C (R190) -/
  | inc_E
  /-- DEC E, 1D (R192) -/
  | dec_E
  /-- LD E,d8, 1E (R124) -/
  | ld_E_d8 (n : Byte)
  /-- JR NZ,e8, 20 (R211) -/
  | jr_NZ_e8 (n : Byte)
  /-- LD HL,d16, 21 (R138) -/
  | ld_HL_d16 (w : Word)
  /-- LD (HL+),A, 22 (R128) -/
  | ld_atHLinc_A
  /-- INC HL, 23 (R194) -/
  | inc_HL
  /-- INC H, 24 (R190) -/
  | inc_H
  /-- DEC H, 25 (R192) -/
  | dec_H
  /-- LD H,d8, 26 (R124) -/
  | ld_H_d8 (n : Byte)
  /-- JR Z,e8, 28 (R211) -/
  | jr_Z_e8 (n : Byte)
  /-- ADD HL,HL, 29 (R182) -/
  | add_HL_HL
  /-- LD A,(HL+), 2A (R130) -/
  | ld_A_atHLinc
  /-- DEC HL, 2B (R195) -/
  | dec_HL
  /-- INC L, 2C (R190) -/
  | inc_L
  /-- DEC L, 2D (R192) -/
  | dec_L
  /-- LD L,d8, 2E (R124) -/
  | ld_L_d8 (n : Byte)
  /-- CPL, 2F (R240) -/
  | cpl
  /-- JR NC,e8, 30 (R211) -/
  | jr_NC_e8 (n : Byte)
  /-- LD SP,d16, 31 (R138) -/
  | ld_SP_d16 (w : Word)
  /-- LD (HL-),A, 32 (R129) -/
  | ld_atHLdec_A
  /-- INC SP, 33 (R194) -/
  | inc_SP
  /-- INC (HL), 34 (R191) -/
  | inc_atHL
  /-- DEC (HL), 35 (R193) -/
  | dec_atHL
  /-- LD (HL),d8, 36 (R125) -/
  | ld_atHL_d8 (n : Byte)
  /-- SCF, 37 (R241) -/
  | scf
  /-- JR C,e8, 38 (R211) -/
  | jr_C_e8 (n : Byte)
  /-- ADD HL,SP, 39 (R182) -/
  | add_HL_SP
  /-- LD A,(HL-), 3A (R131) -/
  | ld_A_atHLdec
  /-- DEC SP, 3B (R195) -/
  | dec_SP
  /-- INC A, 3C (R190) -/
  | inc_A
  /-- DEC A, 3D (R192) -/
  | dec_A
  /-- LD A,d8, 3E (R124) -/
  | ld_A_d8 (n : Byte)
  /-- LD B,B, 40 (R121) -/
  | ld_B_B
  /-- LD B,C, 41 (R121) -/
  | ld_B_C
  /-- LD B,D, 42 (R121) -/
  | ld_B_D
  /-- LD B,E, 43 (R121) -/
  | ld_B_E
  /-- LD B,H, 44 (R121) -/
  | ld_B_H
  /-- LD B,L, 45 (R121) -/
  | ld_B_L
  /-- LD B,(HL), 46 (R122) -/
  | ld_B_atHL
  /-- LD B,A, 47 (R121) -/
  | ld_B_A
  /-- LD C,B, 48 (R121) -/
  | ld_C_B
  /-- LD C,C, 49 (R121) -/
  | ld_C_C
  /-- LD C,D, 4A (R121) -/
  | ld_C_D
  /-- LD C,E, 4B (R121) -/
  | ld_C_E
  /-- LD C,H, 4C (R121) -/
  | ld_C_H
  /-- LD C,L, 4D (R121) -/
  | ld_C_L
  /-- LD C,(HL), 4E (R122) -/
  | ld_C_atHL
  /-- LD C,A, 4F (R121) -/
  | ld_C_A
  /-- LD D,B, 50 (R121) -/
  | ld_D_B
  /-- LD D,C, 51 (R121) -/
  | ld_D_C
  /-- LD D,D, 52 (R121) -/
  | ld_D_D
  /-- LD D,E, 53 (R121) -/
  | ld_D_E
  /-- LD D,H, 54 (R121) -/
  | ld_D_H
  /-- LD D,L, 55 (R121) -/
  | ld_D_L
  /-- LD D,(HL), 56 (R122) -/
  | ld_D_atHL
  /-- LD D,A, 57 (R121) -/
  | ld_D_A
  /-- LD E,B, 58 (R121) -/
  | ld_E_B
  /-- LD E,C, 59 (R121) -/
  | ld_E_C
  /-- LD E,D, 5A (R121) -/
  | ld_E_D
  /-- LD E,E, 5B (R121) -/
  | ld_E_E
  /-- LD E,H, 5C (R121) -/
  | ld_E_H
  /-- LD E,L, 5D (R121) -/
  | ld_E_L
  /-- LD E,(HL), 5E (R122) -/
  | ld_E_atHL
  /-- LD E,A, 5F (R121) -/
  | ld_E_A
  /-- LD H,B, 60 (R121) -/
  | ld_H_B
  /-- LD H,C, 61 (R121) -/
  | ld_H_C
  /-- LD H,D, 62 (R121) -/
  | ld_H_D
  /-- LD H,E, 63 (R121) -/
  | ld_H_E
  /-- LD H,H, 64 (R121) -/
  | ld_H_H
  /-- LD H,L, 65 (R121) -/
  | ld_H_L
  /-- LD H,(HL), 66 (R122) -/
  | ld_H_atHL
  /-- LD H,A, 67 (R121) -/
  | ld_H_A
  /-- LD L,B, 68 (R121) -/
  | ld_L_B
  /-- LD L,C, 69 (R121) -/
  | ld_L_C
  /-- LD L,D, 6A (R121) -/
  | ld_L_D
  /-- LD L,E, 6B (R121) -/
  | ld_L_E
  /-- LD L,H, 6C (R121) -/
  | ld_L_H
  /-- LD L,L, 6D (R121) -/
  | ld_L_L
  /-- LD L,(HL), 6E (R122) -/
  | ld_L_atHL
  /-- LD L,A, 6F (R121) -/
  | ld_L_A
  /-- LD (HL),B, 70 (R123) -/
  | ld_atHL_B
  /-- LD (HL),C, 71 (R123) -/
  | ld_atHL_C
  /-- LD (HL),D, 72 (R123) -/
  | ld_atHL_D
  /-- LD (HL),E, 73 (R123) -/
  | ld_atHL_E
  /-- LD (HL),H, 74 (R123) -/
  | ld_atHL_H
  /-- LD (HL),L, 75 (R123) -/
  | ld_atHL_L
  /-- LD (HL),A, 77 (R123) -/
  | ld_atHL_A
  /-- LD A,B, 78 (R121) -/
  | ld_A_B
  /-- LD A,C, 79 (R121) -/
  | ld_A_C
  /-- LD A,D, 7A (R121) -/
  | ld_A_D
  /-- LD A,E, 7B (R121) -/
  | ld_A_E
  /-- LD A,H, 7C (R121) -/
  | ld_A_H
  /-- LD A,L, 7D (R121) -/
  | ld_A_L
  /-- LD A,(HL), 7E (R122) -/
  | ld_A_atHL
  /-- LD A,A, 7F (R121) -/
  | ld_A_A
  /-- ADD A,B, 80 (R162) -/
  | add_A_B
  /-- ADD A,C, 81 (R162) -/
  | add_A_C
  /-- ADD A,D, 82 (R162) -/
  | add_A_D
  /-- ADD A,E, 83 (R162) -/
  | add_A_E
  /-- ADD A,H, 84 (R162) -/
  | add_A_H
  /-- ADD A,L, 85 (R162) -/
  | add_A_L
  /-- ADD A,(HL), 86 (R163) -/
  | add_A_atHL
  /-- ADD A,A, 87 (R162) -/
  | add_A_A
  /-- ADC A,B, 88 (R165) -/
  | adc_A_B
  /-- ADC A,C, 89 (R165) -/
  | adc_A_C
  /-- ADC A,D, 8A (R165) -/
  | adc_A_D
  /-- ADC A,E, 8B (R165) -/
  | adc_A_E
  /-- ADC A,H, 8C (R165) -/
  | adc_A_H
  /-- ADC A,L, 8D (R165) -/
  | adc_A_L
  /-- ADC A,(HL), 8E (R166) -/
  | adc_A_atHL
  /-- ADC A,A, 8F (R165) -/
  | adc_A_A
  /-- SUB B, 90 (R167) -/
  | sub_B
  /-- SUB C, 91 (R167) -/
  | sub_C
  /-- SUB D, 92 (R167) -/
  | sub_D
  /-- SUB E, 93 (R167) -/
  | sub_E
  /-- SUB H, 94 (R167) -/
  | sub_H
  /-- SUB L, 95 (R167) -/
  | sub_L
  /-- SUB (HL), 96 (R168) -/
  | sub_atHL
  /-- SUB A, 97 (R167) -/
  | sub_A
  /-- AND B, A0 (R170) -/
  | and_B
  /-- AND C, A1 (R170) -/
  | and_C
  /-- AND D, A2 (R170) -/
  | and_D
  /-- AND E, A3 (R170) -/
  | and_E
  /-- AND H, A4 (R170) -/
  | and_H
  /-- AND L, A5 (R170) -/
  | and_L
  /-- AND (HL), A6 (R171) -/
  | and_atHL
  /-- AND A, A7 (R170) -/
  | and_A
  /-- XOR B, A8 (R173) -/
  | xor_B
  /-- XOR C, A9 (R173) -/
  | xor_C
  /-- XOR D, AA (R173) -/
  | xor_D
  /-- XOR E, AB (R173) -/
  | xor_E
  /-- XOR H, AC (R173) -/
  | xor_H
  /-- XOR L, AD (R173) -/
  | xor_L
  /-- XOR (HL), AE (R174) -/
  | xor_atHL
  /-- XOR A, AF (R173) -/
  | xor_A
  /-- OR B, B0 (R176) -/
  | or_B
  /-- OR C, B1 (R176) -/
  | or_C
  /-- OR D, B2 (R176) -/
  | or_D
  /-- OR E, B3 (R176) -/
  | or_E
  /-- OR H, B4 (R176) -/
  | or_H
  /-- OR L, B5 (R176) -/
  | or_L
  /-- OR (HL), B6 (R177) -/
  | or_atHL
  /-- OR A, B7 (R176) -/
  | or_A
  /-- CP B, B8 (R179) -/
  | cp_B
  /-- CP C, B9 (R179) -/
  | cp_C
  /-- CP D, BA (R179) -/
  | cp_D
  /-- CP E, BB (R179) -/
  | cp_E
  /-- CP H, BC (R179) -/
  | cp_H
  /-- CP L, BD (R179) -/
  | cp_L
  /-- CP (HL), BE (R180) -/
  | cp_atHL
  /-- CP A, BF (R179) -/
  | cp_A
  /-- RET NZ, C0 (R218) -/
  | ret_NZ
  /-- POP BC, C1 (R231) -/
  | pop_BC
  /-- JP NZ,a16, C2 (R213) -/
  | jp_NZ_a16 (w : Word)
  /-- JP a16, C3 (R212) -/
  | jp_a16 (w : Word)
  /-- CALL NZ,a16, C4 (R216) -/
  | call_NZ_a16 (w : Word)
  /-- PUSH BC, C5 (R230) -/
  | push_BC
  /-- ADD A,d8, C6 (R164) -/
  | add_A_d8 (n : Byte)
  /-- RET Z, C8 (R218) -/
  | ret_Z
  /-- RET, C9 (R217) -/
  | ret
  /-- JP Z,a16, CA (R213) -/
  | jp_Z_a16 (w : Word)
  /-- CALL Z,a16, CC (R216) -/
  | call_Z_a16 (w : Word)
  /-- CALL a16, CD (R215) -/
  | call_a16 (w : Word)
  /-- ADC A,d8, CE (R166) -/
  | adc_A_d8 (n : Byte)
  /-- RET NC, D0 (R218) -/
  | ret_NC
  /-- POP DE, D1 (R231) -/
  | pop_DE
  /-- JP NC,a16, D2 (R213) -/
  | jp_NC_a16 (w : Word)
  /-- CALL NC,a16, D4 (R216) -/
  | call_NC_a16 (w : Word)
  /-- PUSH DE, D5 (R230) -/
  | push_DE
  /-- SUB d8, D6 (R169) -/
  | sub_d8 (n : Byte)
  /-- RET C, D8 (R218) -/
  | ret_C
  /-- RETI, D9 (R219) -/
  | reti
  /-- JP C,a16, DA (R213) -/
  | jp_C_a16 (w : Word)
  /-- CALL C,a16, DC (R216) -/
  | call_C_a16 (w : Word)
  /-- LDH (a8),A, E0 (R132) -/
  | ldh_atA8_A (n : Byte)
  /-- POP HL, E1 (R231) -/
  | pop_HL
  /-- LD (C),A, E2 (R134) -/
  | ld_atC_A
  /-- PUSH HL, E5 (R230) -/
  | push_HL
  /-- AND d8, E6 (R172) -/
  | and_d8 (n : Byte)
  /-- ADD SP,e8, E8 (R233) -/
  | add_SP_e8 (n : Byte)
  /-- JP (HL), E9 (R214) -/
  | jp_atHL
  /-- LD (a16),A, EA (R136) -/
  | ld_atA16_A (w : Word)
  /-- XOR d8, EE (R175) -/
  | xor_d8 (n : Byte)
  /-- LDH A,(a8), F0 (R133) -/
  | ldh_A_atA8 (n : Byte)
  /-- POP AF, F1 (R232) -/
  | pop_AF
  /-- LD A,(C), F2 (R135) -/
  | ld_A_atC
  /-- DI, F3 (R243) -/
  | di
  /-- PUSH AF, F5 (R230) -/
  | push_AF
  /-- OR d8, F6 (R178) -/
  | or_d8 (n : Byte)
  /-- LD HL,SP+e8, F8 (R141) -/
  | ld_HL_SPe8 (n : Byte)
  /-- LD SP,HL, F9 (R140) -/
  | ld_SP_HL
  /-- LD A,(a16), FA (R137) -/
  | ld_A_atA16 (w : Word)
  /-- EI, FB (R242) -/
  | ei
  /-- CP d8, FE (R181) -/
  | cp_d8 (n : Byte)
  /-- RL B, CB 10 (R202) -/
  | rl_B
  /-- RL C, CB 11 (R202) -/
  | rl_C
  /-- RL D, CB 12 (R202) -/
  | rl_D
  /-- RL E, CB 13 (R202) -/
  | rl_E
  /-- RL H, CB 14 (R202) -/
  | rl_H
  /-- RL L, CB 15 (R202) -/
  | rl_L
  /-- RL A, CB 17 (R202) -/
  | rl_A
  /-- SWAP B, CB 30 (R244) -/
  | swap_B
  /-- SWAP C, CB 31 (R244) -/
  | swap_C
  /-- SWAP D, CB 32 (R244) -/
  | swap_D
  /-- SWAP E, CB 33 (R244) -/
  | swap_E
  /-- SWAP H, CB 34 (R244) -/
  | swap_H
  /-- SWAP L, CB 35 (R244) -/
  | swap_L
  /-- SWAP (HL), CB 36 (R245) -/
  | swap_atHL
  /-- SWAP A, CB 37 (R244) -/
  | swap_A
  /-- BIT 0,B, CB 40 (R200) -/
  | bit_0_B
  /-- BIT 0,C, CB 41 (R200) -/
  | bit_0_C
  /-- BIT 0,D, CB 42 (R200) -/
  | bit_0_D
  /-- BIT 0,E, CB 43 (R200) -/
  | bit_0_E
  /-- BIT 0,H, CB 44 (R200) -/
  | bit_0_H
  /-- BIT 0,L, CB 45 (R200) -/
  | bit_0_L
  /-- BIT 0,(HL), CB 46 (R201) -/
  | bit_0_atHL
  /-- BIT 0,A, CB 47 (R200) -/
  | bit_0_A
  /-- BIT 1,B, CB 48 (R200) -/
  | bit_1_B
  /-- BIT 1,C, CB 49 (R200) -/
  | bit_1_C
  /-- BIT 1,D, CB 4A (R200) -/
  | bit_1_D
  /-- BIT 1,E, CB 4B (R200) -/
  | bit_1_E
  /-- BIT 1,H, CB 4C (R200) -/
  | bit_1_H
  /-- BIT 1,L, CB 4D (R200) -/
  | bit_1_L
  /-- BIT 1,(HL), CB 4E (R201) -/
  | bit_1_atHL
  /-- BIT 1,A, CB 4F (R200) -/
  | bit_1_A
  /-- BIT 2,B, CB 50 (R200) -/
  | bit_2_B
  /-- BIT 2,C, CB 51 (R200) -/
  | bit_2_C
  /-- BIT 2,D, CB 52 (R200) -/
  | bit_2_D
  /-- BIT 2,E, CB 53 (R200) -/
  | bit_2_E
  /-- BIT 2,H, CB 54 (R200) -/
  | bit_2_H
  /-- BIT 2,L, CB 55 (R200) -/
  | bit_2_L
  /-- BIT 2,(HL), CB 56 (R201) -/
  | bit_2_atHL
  /-- BIT 2,A, CB 57 (R200) -/
  | bit_2_A
  /-- BIT 3,B, CB 58 (R200) -/
  | bit_3_B
  /-- BIT 3,C, CB 59 (R200) -/
  | bit_3_C
  /-- BIT 3,D, CB 5A (R200) -/
  | bit_3_D
  /-- BIT 3,E, CB 5B (R200) -/
  | bit_3_E
  /-- BIT 3,H, CB 5C (R200) -/
  | bit_3_H
  /-- BIT 3,L, CB 5D (R200) -/
  | bit_3_L
  /-- BIT 3,(HL), CB 5E (R201) -/
  | bit_3_atHL
  /-- BIT 3,A, CB 5F (R200) -/
  | bit_3_A
  /-- BIT 4,B, CB 60 (R200) -/
  | bit_4_B
  /-- BIT 4,C, CB 61 (R200) -/
  | bit_4_C
  /-- BIT 4,D, CB 62 (R200) -/
  | bit_4_D
  /-- BIT 4,E, CB 63 (R200) -/
  | bit_4_E
  /-- BIT 4,H, CB 64 (R200) -/
  | bit_4_H
  /-- BIT 4,L, CB 65 (R200) -/
  | bit_4_L
  /-- BIT 4,(HL), CB 66 (R201) -/
  | bit_4_atHL
  /-- BIT 4,A, CB 67 (R200) -/
  | bit_4_A
  /-- BIT 5,B, CB 68 (R200) -/
  | bit_5_B
  /-- BIT 5,C, CB 69 (R200) -/
  | bit_5_C
  /-- BIT 5,D, CB 6A (R200) -/
  | bit_5_D
  /-- BIT 5,E, CB 6B (R200) -/
  | bit_5_E
  /-- BIT 5,H, CB 6C (R200) -/
  | bit_5_H
  /-- BIT 5,L, CB 6D (R200) -/
  | bit_5_L
  /-- BIT 5,(HL), CB 6E (R201) -/
  | bit_5_atHL
  /-- BIT 5,A, CB 6F (R200) -/
  | bit_5_A
  /-- BIT 6,B, CB 70 (R200) -/
  | bit_6_B
  /-- BIT 6,C, CB 71 (R200) -/
  | bit_6_C
  /-- BIT 6,D, CB 72 (R200) -/
  | bit_6_D
  /-- BIT 6,E, CB 73 (R200) -/
  | bit_6_E
  /-- BIT 6,H, CB 74 (R200) -/
  | bit_6_H
  /-- BIT 6,L, CB 75 (R200) -/
  | bit_6_L
  /-- BIT 6,(HL), CB 76 (R201) -/
  | bit_6_atHL
  /-- BIT 6,A, CB 77 (R200) -/
  | bit_6_A
  /-- BIT 7,B, CB 78 (R200) -/
  | bit_7_B
  /-- BIT 7,C, CB 79 (R200) -/
  | bit_7_C
  /-- BIT 7,D, CB 7A (R200) -/
  | bit_7_D
  /-- BIT 7,E, CB 7B (R200) -/
  | bit_7_E
  /-- BIT 7,H, CB 7C (R200) -/
  | bit_7_H
  /-- BIT 7,L, CB 7D (R200) -/
  | bit_7_L
  /-- BIT 7,(HL), CB 7E (R201) -/
  | bit_7_atHL
  /-- BIT 7,A, CB 7F (R200) -/
  | bit_7_A
deriving DecidableEq, Repr

end Sys2Proof
end

