-- ==== Sys2Proof/Config.lean ====
section
/-! DEFINITION. The configuration: the named parameters of 00_scope.md R5, as plain data, and their default values. A machine carries
its configuration in the field `cfg` of State, which no step changes (log entry 1). The spec leaves no value open, so there is no free
value here. -/

namespace Sys2Proof

/-- The forms of instruction that the cycle table CYCLES gives a figure for (70_reset_and_hazards.md R370; the rules of files 40 to 46).
A conditional form has one key for each outcome. -/
inductive CycleKey
  | nop
  | ldRegReg | ldRegInd | ldIndReg | ldRegImm | ldIndImm | ldPairIndA | ldAPairInd
  | ldIndIncA | ldIndDecA | ldAIndInc | ldAIndDec
  | ldhConstA | ldhAConst | ldHighRegA | ldAHighReg | ldAbsA | ldAAbs
  | ldPairImm | ldAbsSp | ldSpHl | ldHlSpDisp
  | aluReg (op : Alu) | aluInd (op : Alu) | aluImm (op : Alu) | addHl
  | incReg | incInd | incPair | decReg | decInd | decPair
  | bitReg | bitInd | rlReg | rla
  | jr | jrNotTaken | jrTaken | jp | jpNotTaken | jpTaken | jpHl
  | call | callNotTaken | callTaken | ret | retNotTaken | retTaken | reti
  | push | pop | popAf | addSp
  | cpl | scf | ei | di | swapReg | swapInd
deriving DecidableEq, Repr

/-- SAMPLE_RATE, "one of 44100 or 48000" (00_scope.md R5). -/
inductive SampleRate
  | hz44100 | hz48000
deriving DecidableEq, Repr

/-- BG_WRAP, "one of 256 or 255" (00_scope.md R5, 90_conflicts.md C5). -/
inductive BgWrap
  | wrap256 | wrap255
deriving DecidableEq, Repr

/-- The parameters that fix the machine (00_scope.md R5). -/
structure Config where
  /-- CLOCK_RATE, cycles per second -/
  clockRate : Nat
  /-- SAMPLE_RATE -/
  sampleRate : SampleRate
  /-- BG_WRAP, the wrap modulus of the background scroll -/
  bgWrap : BgWrap
  /-- DMA_ENABLED: whether the observer on 0xFF46 is present -/
  dmaEnabled : Bool
  /-- ENVELOPE_STEP_CYCLES, the unit of a channel's period timer -/
  envelopeStepCycles : Nat
  /-- DUTY_STEP_SCALE, the unit of a channel's channel timer -/
  dutyStepScale : Nat
  /-- CYCLES: the figures that differ from those of the rules, if any (log entry 3) -/
  cycleOverrides : List (CycleKey × Nat)
deriving DecidableEq, Repr

/-- The default of every parameter (00_scope.md R5). -/
def Config.standard : Config where
  clockRate := 4194304
  sampleRate := .hz44100
  bgWrap := .wrap256
  dmaEnabled := true
  envelopeStepCycles := 65536
  dutyStepScale := 4
  cycleOverrides := []

end Sys2Proof
end

