-- ==== Sys2Proof/Machine/Timing.lean ====
section
/-! DEFINITION. The cycle figures of the rules (70_reset_and_hazards.md R370) and what is derived from the configuration. -/

namespace Sys2Proof

/-- The figure of the 8-bit ALU forms on a register (41_arith.md R162, R165, R167, R170, R173, R176, R179). -/
def Alu.regCycles : Alu → Nat
  | .add | .adc | .sub | .cp => 4
  | .and => 8
  | .xor | .or => 4

/-- The figure of the 8-bit ALU forms on (HL) or d8 (41_arith.md R163, R164, R166, R168, R169, R171, R172, R174, R175, R177, R178,
R180, R181). -/
def Alu.memCycles : Alu → Nat
  | .add | .adc | .sub | .cp => 8
  | .and => 8
  | .xor | .or => 4

/-- The cycle figure each rule of files 40 to 46 states for its form (70_reset_and_hazards.md R370). -/
def CycleKey.figure : CycleKey → Nat
  | .nop => 4
  | .ldRegReg => 4
  | .ldRegInd | .ldIndReg | .ldRegImm | .ldPairIndA | .ldAPairInd => 8
  | .ldIndImm => 12
  | .ldIndIncA | .ldIndDecA | .ldAIndInc | .ldAIndDec => 8
  | .ldhConstA | .ldhAConst => 12
  | .ldHighRegA | .ldAHighReg => 8
  | .ldAbsA | .ldAAbs => 16
  | .ldPairImm => 12
  | .ldAbsSp => 20
  | .ldSpHl => 8
  | .ldHlSpDisp => 12
  | .aluReg op => op.regCycles
  | .aluInd op => op.memCycles
  | .aluImm op => op.memCycles
  | .addHl => 8
  | .incReg | .decReg => 4
  | .incInd | .decInd => 12
  | .incPair | .decPair => 8
  | .bitReg | .bitInd => 12
  | .rlReg => 8
  | .rla => 4
  | .jr => 12
  | .jrNotTaken => 8
  | .jrTaken => 12
  | .jp => 16
  | .jpNotTaken => 12
  | .jpTaken => 16
  | .jpHl => 4
  | .call => 24
  | .callNotTaken => 12
  | .callTaken => 24
  | .ret => 16
  | .retNotTaken => 8
  | .retTaken => 20
  | .reti => 16
  | .push => 16
  | .pop | .popAf => 12
  | .addSp => 16
  | .cpl | .scf | .ei | .di => 4
  | .swapReg => 8
  | .swapInd => 16

/-- The machine's figure for a form: the one its CYCLES table gives, the rule's own unless the table says otherwise
(00_scope.md R5; log entry 3). -/
def Config.cyclesOf (cfg : Config) (k : CycleKey) : Nat :=
  (cfg.cycleOverrides.lookup k).getD k.figure

/-- The sample rate as a number (00_scope.md R5). -/
def SampleRate.hertz : SampleRate → Nat
  | .hz44100 => 44100
  | .hz48000 => 48000

/-- The modulus of the background scroll (00_scope.md R5; 61_ppu.md R308). -/
def BgWrap.modulus : BgWrap → Nat
  | .wrap256 => 256
  | .wrap255 => 255

/-- SAMPLE_PERIOD = floor(CLOCK_RATE / SAMPLE_RATE) (00_scope.md R5; 62_apu.md R330). -/
def Config.samplePeriod (cfg : Config) : Nat := cfg.clockRate / cfg.sampleRate.hertz

end Sys2Proof
end

