-- ==== Sys2Proof/Machine/State.lean ====
section
/-! DEFINITION. The state of the whole CORE (10_state.md R35) as plain data, the reasons a step can stop, and the state after reset
(70_reset_and_hazards.md R360). -/

namespace Sys2Proof.Machine

/-- The four flags of F, bits 7, 6, 5 and 4. The low nibble of F is always zero and is not stored (10_state.md R24, R25; log entry 4). -/
structure Flags where
  /-- Zero, bit 7 -/
  z : Bool
  /-- Subtract/Negate, bit 6 -/
  n : Bool
  /-- Half-carry, bit 5 -/
  h : Bool
  /-- Carry, bit 4 -/
  c : Bool
deriving DecidableEq, Repr

/-- The CPU's registers and interrupt-enable state (10_state.md R20, R30). -/
structure Cpu where
  a : Byte
  b : Byte
  c : Byte
  d : Byte
  e : Byte
  h : Byte
  l : Byte
  /-- the register F, as its four flags -/
  flags : Flags
  sp : Word
  pc : Word
  /-- the interrupt master enable -/
  ime : Bool
  /-- the pending enable that EI schedules, 0..2 -/
  eiDelay : Fin 3
deriving DecidableEq, Repr

/-- One of the four shades (61_ppu.md R302). -/
inductive Shade
  | white | lightGray | darkGray | black
deriving DecidableEq, Repr

/-- The 4-entry background palette (61_ppu.md R300). -/
structure Palette where
  c0 : Shade
  c1 : Shade
  c2 : Shade
  c3 : Shade
deriving DecidableEq, Repr

/-- A framebuffer row: 160 shades, column 0 at the left (61_ppu.md R300, R309). -/
abbrev FbRow := Vector Shade 160

/-- The screen: 144 rows, row 0 at the top (61_ppu.md R300, R309; log entry 13). -/
abbrev Framebuffer := Vector FbRow 144

/-- PPU state held outside memory (61_ppu.md R300). -/
structure Ppu where
  /-- the scanline cycle accumulator, 0..455 -/
  acc : Fin 456
  palette : Palette
  fb : Framebuffer
deriving DecidableEq, Repr

/-- One square channel (62_apu.md R330). -/
structure Channel where
  enabled : Bool
  /-- 0..15 -/
  volume : Fin 16
  /-- the duty-cycle selector, 0..3 -/
  duty : Fin 4
  /-- the duty position, 0..7 -/
  dutyPos : Fin 8
  chanTimer : Nat
  chanReload : Nat
  periodTimer : Nat
  periodReload : Nat
deriving DecidableEq, Repr

/-- APU state held outside memory (62_apu.md R330). -/
structure Apu where
  sampleTimer : Nat
  ch1 : Channel
  ch2 : Channel
deriving DecidableEq, Repr

/-- Memory as (address, byte) pairs, addresses rising, no entry holding what an unlisted address reads as (20_memory.md R50;
log entry 5). -/
abbrev Memory := List Host.Cell

/-- The whole machine (10_state.md R35), with its configuration and the count its last instruction reported. -/
structure State where
  cpu : Cpu
  mem : Memory
  ppu : Ppu
  apu : Apu
  /-- the samples delivered to the sample-ready callback so far, each an i16, oldest first (62_apu.md R338; log entry 14) -/
  samples : List (BitVec 16)
  /-- the machine's parameters, which no step changes (00_scope.md R5; log entry 1) -/
  cfg : Config
  /-- the model's own field: the cycles the last instruction reported (50_cpu_driver.md R250; log entry 2) -/
  cycles : Nat
deriving DecidableEq, Repr

/-- The three kinds of DecodeError (60_exceptions.md R280). -/
inductive DecodeErrorKind
  | unknownOpcode | unknownPrefixedOpcode | outOfRange
deriving DecidableEq, Repr

/-- Why the machine stops. -/
inductive Fault
  /-- Raised by the decode of a step (60_exceptions.md R280 to R283): the byte at pc is not admitted, the byte after 0xCB is not
  admitted, or the instruction does not fit below 0x10000. It carries the address and byte the spec reports. Safe: the spec itself ends
  the step here and changes no state. -/
  | decodeError (kind : DecodeErrorKind) (addr : Word) (byte : Byte)
deriving DecidableEq, Repr

/-- What the model gives no meaning to. -/
inductive Refusal
  /-- Raised by exec's arm of an instruction that has no meaning yet (no arm is left). Safe: the model stops. -/
  | notModelled (mnemonic : String)
  /-- Raised by `construct` for a program image longer than 65536 bytes, which the spec refuses (50_cpu_driver.md R258). Safe: no machine
  is built, and no step answers it. -/
  | imageTooLong (length : Nat)
deriving DecidableEq, Repr

/-- The identity palette (61_ppu.md R303, R311). -/
def Palette.identity : Palette := ⟨.white, .lightGray, .darkGray, .black⟩

/-- The registers at construction: all zero (10_state.md R33). -/
def Cpu.reset : Cpu where
  a := 0
  b := 0
  c := 0
  d := 0
  e := 0
  h := 0
  l := 0
  flags := ⟨false, false, false, false⟩
  sp := 0
  pc := 0
  ime := false
  eiDelay := 0

/-- The PPU at construction (61_ppu.md R311). -/
def Ppu.reset : Ppu where
  acc := 0
  palette := Palette.identity
  fb := Vector.replicate 144 (Vector.replicate 160 Shade.white)

/-- A channel at construction (62_apu.md R340). -/
def Channel.reset : Channel where
  enabled := false
  volume := 0
  duty := 0
  dutyPos := 0
  chanTimer := 0
  chanReload := 0
  periodTimer := 0
  periodReload := 0

/-- The state that construction builds for a configuration, with an empty program image (70_reset_and_hazards.md R360). -/
def State.resetWith (cfg : Config) : State where
  cpu := Cpu.reset
  mem := []
  ppu := Ppu.reset
  apu := { sampleTimer := cfg.samplePeriod, ch1 := Channel.reset, ch2 := Channel.reset }
  samples := []
  cfg := cfg
  cycles := 0

/-- The machine right after reset: the default parameters and an empty program image, every memory byte 0
(70_reset_and_hazards.md R360; 00_scope.md R5). -/
def State.reset : State := State.resetWith Config.standard

end Sys2Proof.Machine
end

