-- ==== Sys2Proof/Machine/Flags.lean ====
section
/-! DEFINITION. The flags and every flag computation of the rules: F as a byte (10_state.md R24 to R26), the conditions (R32), the 8-bit
ALU functions (41_arith.md R160), and the flags of ADD HL,rr, of INC and DEC, and of the stack-offset forms. Operands are read as
integers, the result is computed exactly and narrowed at the end. -/

namespace Sys2Proof.Machine

/-- F as a byte: Z, N, H, C in bits 7..4, the low nibble zero (10_state.md R24). -/
def Flags.toByte (f : Flags) : Byte :=
  (if f.z then 0x80 else 0) ||| (if f.n then 0x40 else 0) ||| (if f.h then 0x20 else 0) ||| (if f.c then 0x10 else 0)

/-- Writing the whole of F: the low nibble of the byte is dropped (10_state.md R25). -/
def Flags.ofByte (v : Byte) : Flags := ⟨v.getLsbD 7, v.getLsbD 6, v.getLsbD 5, v.getLsbD 4⟩

/-- Reading one flag (10_state.md R26). -/
def Flags.get (f : Flags) : Flag → Bool
  | .z => f.z
  | .n => f.n
  | .h => f.h
  | .c => f.c

/-- Writing one flag changes that flag only (10_state.md R26). -/
def Flags.set (f : Flags) (flag : Flag) (v : Bool) : Flags :=
  match flag with
  | .z => { f with z := v }
  | .n => { f with n := v }
  | .h => { f with h := v }
  | .c => { f with c := v }

/-- When a condition holds (10_state.md R32). -/
def condHolds (cc : Cond) (f : Flags) : Bool :=
  match cc with
  | .nz => !f.z
  | .z => f.z
  | .nc => !f.c
  | .c => f.c

/-- An 8-bit result with the four flags that go with it (41_arith.md R160). -/
structure AluResult where
  res : Byte
  flags : Flags
deriving DecidableEq, Repr

/-- `add8(a, b, cin)` (41_arith.md R160). -/
def add8 (a b : Byte) (cin : Bool) : AluResult :=
  let t := a.toNat + b.toNat + cin.toNat
  let res := BitVec.ofNat 8 t
  { res := res
    flags := { z := decide (res = 0), n := false
               h := decide (a.toNat % 16 + b.toNat % 16 + cin.toNat > 0x0F)
               c := decide (t > 0xFF) } }

/-- `sub8(a, b)` (41_arith.md R160). -/
def sub8 (a b : Byte) : AluResult :=
  let res := a - b
  { res := res
    flags := { z := decide (res = 0), n := true
               h := decide (a.toNat % 16 < b.toNat % 16)
               c := decide (a.toNat < b.toNat) } }

/-- `and8(a, b)` (41_arith.md R160). -/
def and8 (a b : Byte) : AluResult :=
  { res := a &&& b, flags := { z := decide (a &&& b = 0), n := false, h := true, c := false } }

/-- `xor8(a, b)` (41_arith.md R160). -/
def xor8 (a b : Byte) : AluResult :=
  { res := a ^^^ b, flags := { z := decide (a ^^^ b = 0), n := false, h := false, c := false } }

/-- `or8(a, b)` (41_arith.md R160). -/
def or8 (a b : Byte) : AluResult :=
  { res := a ||| b, flags := { z := decide (a ||| b = 0), n := false, h := false, c := false } }

/-- The ALU function of an operation, with the carry-in that ADC uses (41_arith.md R162, R165, R167, R170, R173, R176, R179). -/
def aluResult (op : Alu) (a v : Byte) (carry : Bool) : AluResult :=
  match op with
  | .add => add8 a v false
  | .adc => add8 a v carry
  | .sub => sub8 a v
  | .and => and8 a v
  | .xor => xor8 a v
  | .or => or8 a v
  | .cp => sub8 a v

/-- The flags of INC on a byte; C is kept (42_incdec.md R190). -/
def incFlags (old : Byte) (f : Flags) : Flags :=
  { z := decide (old + 1 = 0), n := false, h := decide (old.toNat % 16 = 0x0F), c := f.c }

/-- The flags of DEC on a byte; C is kept (42_incdec.md R192). -/
def decFlags (old : Byte) (f : Flags) : Flags :=
  { z := decide (old - 1 = 0), n := true, h := decide (old.toNat % 16 = 0x00), c := f.c }

/-- The flags of ADD HL,rr; Z is kept (41_arith.md R182). -/
def addHlFlags (x y : Word) (f : Flags) : Flags :=
  { z := f.z, n := false
    h := decide (x.toNat % 0x1000 + y.toNat % 0x1000 > 0x0FFF)
    c := decide (x.toNat + y.toNat > 0xFFFF) }

/-- The flags of the stack-offset forms: the carries of the unsigned add of the displacement byte to the low byte of SP
(40_nop_load.md R141; 45_stack.md R233). -/
def stackOffsetFlags (sp : Word) (u : Byte) : Flags :=
  { z := false, n := false
    h := decide (sp.toNat % 0x10 + u.toNat % 0x10 > 0x0F)
    c := decide (sp.toNat % 0x100 + u.toNat > 0xFF) }

/-- The flags of BIT b on a byte; C is kept (43_bit_rotate.md R200). -/
def bitFlags (b : Fin 8) (v : Byte) (f : Flags) : Flags :=
  { z := !v.getLsbD b.val, n := false, h := true, c := f.c }

/-- The flags of RL r: Z from the result, C the bit shifted out (43_bit_rotate.md R202). -/
def rlFlags (old res : Byte) : Flags :=
  { z := decide (res = 0), n := false, h := false, c := old.getLsbD 7 }

/-- The flags of RLA: Z is cleared, C the bit shifted out (43_bit_rotate.md R203). -/
def rlaFlags (old : Byte) : Flags :=
  { z := false, n := false, h := false, c := old.getLsbD 7 }

/-- The flags of CPL; Z and C are kept (46_misc.md R240). -/
def cplFlags (f : Flags) : Flags := { f with n := true, h := true }

/-- The flags of SCF; Z is kept (46_misc.md R241). -/
def scfFlags (f : Flags) : Flags := { f with n := false, h := false, c := true }

/-- The flags of SWAP (46_misc.md R244). -/
def swapFlags (res : Byte) : Flags := { z := decide (res = 0), n := false, h := false, c := false }

end Sys2Proof.Machine
end

