-- ==== Sys2Proof/Machine/Memory.lean ====
section
/-! DEFINITION. The byte array of the bus (20_memory.md R50, R51): reading and storing one byte of a memory in canonical form. -/

namespace Sys2Proof.Machine

/-- What an address that is not listed reads as: the address space is zero-filled (20_memory.md R50; 70_reset_and_hazards.md R360). -/
def Memory.unlisted : Byte := 0

/-- The byte at an address. -/
def Memory.read : Memory → Nat → Byte
  | [], _ => Memory.unlisted
  | (k, v) :: m, a => if k = a then v else Memory.read m a

/-- The memory with nothing listed at an address. -/
def Memory.erase (m : Memory) (a : Nat) : Memory := m.filter fun cell => cell.1 != a

/-- The memory with one more cell, in the place the rising order gives it. -/
def Memory.insert : Memory → Nat → Byte → Memory
  | [], a, v => [(a, v)]
  | (k, u) :: m, a, v => if a < k then (a, v) :: (k, u) :: m else (k, u) :: Memory.insert m a v

/-- Store one byte, keeping the canonical form: a byte equal to what an unlisted address reads as is not listed. -/
def Memory.write (m : Memory) (a : Nat) (v : Byte) : Memory :=
  if v = Memory.unlisted then m.erase a else (m.erase a).insert a v

/-- The canonical form: addresses strictly rising and inside the 64 KiB space, no byte listed that an unlisted address reads as. -/
abbrev Memory.wf (m : Memory) : Prop :=
  m.Pairwise (fun x y => x.1 < y.1) ∧ ∀ cell ∈ m, cell.2 ≠ Memory.unlisted ∧ cell.1 < 65536

/-- The memory of a program image laid from address `a` on, nothing else listed (50_cpu_driver.md R258). -/
def Memory.ofImage (a : Nat) : List Byte → Memory
  | [] => []
  | v :: vs => if v = Memory.unlisted then Memory.ofImage (a + 1) vs else (a, v) :: Memory.ofImage (a + 1) vs

end Sys2Proof.Machine
end

