-- ==== Sys2Proof/Machine/Ops.lean ====
section
/-! DEFINITION. The named operations over the state: registers, the bus with its write observers, the stack, the PC advance, the EI
delay and the cycle report. Every meaning is written over these.

The machine has no trap entry and no return from a fault (60_exceptions.md R286, R287): there is no operation here that takes an
exception. `decodeFault` is the one shared way a step stops (R280). -/

namespace Sys2Proof.Machine

/-! ## Registers -/

/-- Reading an 8-bit operand register (00_scope.md R8). -/
def State.reg (s : State) : Reg → Byte
  | .b => s.cpu.b
  | .c => s.cpu.c
  | .d => s.cpu.d
  | .e => s.cpu.e
  | .h => s.cpu.h
  | .l => s.cpu.l
  | .a => s.cpu.a

/-- Writing an 8-bit operand register changes that register only (10_state.md R22). -/
def State.setReg (s : State) (r : Reg) (v : Byte) : State :=
  match r with
  | .b => { s with cpu := { s.cpu with b := v } }
  | .c => { s with cpu := { s.cpu with c := v } }
  | .d => { s with cpu := { s.cpu with d := v } }
  | .e => { s with cpu := { s.cpu with e := v } }
  | .h => { s with cpu := { s.cpu with h := v } }
  | .l => { s with cpu := { s.cpu with l := v } }
  | .a => { s with cpu := { s.cpu with a := v } }

/-- Replacing all four flags. -/
def State.setFlags (s : State) (f : Flags) : State := { s with cpu := { s.cpu with flags := f } }

/-- `pc <- v` (00_scope.md R8). -/
def State.setPc (s : State) (v : Word) : State := { s with cpu := { s.cpu with pc := v } }

/-- `x[SP] <- v` (10_state.md R23). -/
def State.setSp (s : State) (v : Word) : State := { s with cpu := { s.cpu with sp := v } }

/-- `ime <- v` (10_state.md R30). -/
def State.setIme (s : State) (v : Bool) : State := { s with cpu := { s.cpu with ime := v } }

/-- `eiDelay <- v` (10_state.md R30). -/
def State.setEiDelay (s : State) (v : Fin 3) : State := { s with cpu := { s.cpu with eiDelay := v } }

/-- The value of HL: its two halves, H the high byte (10_state.md R21). -/
def State.hl (s : State) : Word := join s.cpu.h s.cpu.l

/-- Reading a 16-bit operand: the first-named half is the high byte (10_state.md R21). -/
def State.pair (s : State) : Pair → Word
  | .bc => join s.cpu.b s.cpu.c
  | .de => join s.cpu.d s.cpu.e
  | .hl => join s.cpu.h s.cpu.l
  | .sp => s.cpu.sp

/-- Writing a 16-bit operand writes both halves (10_state.md R23). -/
def State.setPair (s : State) (p : Pair) (w : Word) : State :=
  match p with
  | .bc => { s with cpu := { s.cpu with b := hi w, c := lo w } }
  | .de => { s with cpu := { s.cpu with d := hi w, e := lo w } }
  | .hl => { s with cpu := { s.cpu with h := hi w, l := lo w } }
  | .sp => { s with cpu := { s.cpu with sp := w } }

/-- Reading an operand of PUSH; the low byte of AF is F (10_state.md R21). -/
def State.stackPair (s : State) : StackPair → Word
  | .bc => join s.cpu.b s.cpu.c
  | .de => join s.cpu.d s.cpu.e
  | .hl => join s.cpu.h s.cpu.l
  | .af => join s.cpu.a s.cpu.flags.toByte

/-- Writing an operand of POP; F drops its low nibble (10_state.md R23, R25). -/
def State.setStackPair (s : State) (q : StackPair) (w : Word) : State :=
  match q with
  | .bc => { s with cpu := { s.cpu with b := hi w, c := lo w } }
  | .de => { s with cpu := { s.cpu with d := hi w, e := lo w } }
  | .hl => { s with cpu := { s.cpu with h := hi w, l := lo w } }
  | .af => { s with cpu := { s.cpu with a := hi w, flags := Flags.ofByte (lo w) } }

/-- Reading an address pair of LD (rr),A and LD A,(rr) (10_state.md R21). -/
def State.indPair (s : State) : IndPair → Word
  | .bc => join s.cpu.b s.cpu.c
  | .de => join s.cpu.d s.cpu.e

/-! ## The bus -/

/-- Replacing the memory. -/
def State.setMem (s : State) (m : Memory) : State := { s with mem := m }

/-- Replacing the palette. -/
def State.setPalette (s : State) (p : Palette) : State := { s with ppu := { s.ppu with palette := p } }

/-- `MemRead(addr, 1)`; no side effect (20_memory.md R51). -/
def State.memRead (s : State) (a : Word) : Byte := s.mem.read a.toNat

/-- `PlainWrite(addr, v)`: a store that runs no observer (20_memory.md R53). -/
def State.plainWrite (s : State) (a : Word) (v : Byte) : State := s.setMem (s.mem.write a.toNat v)

/-- The DMA register's address, observed (20_memory.md R54, R61). -/
def addrDma : Word := 0xFF46

/-- The BGP register's address, observed (20_memory.md R54, R61). -/
def addrBgp : Word := 0xFF47

/-- The base of the DMA copy's destination (20_memory.md R55). -/
def dmaDest : Word := 0xFE00

/-- The first `n` byte copies of the DMA copy of page `v`, in order (20_memory.md R55). -/
def State.dmaBytes (s : State) (v : Byte) : Nat → State
  | 0 => s
  | n + 1 =>
    let t := s.dmaBytes v n
    t.plainWrite (dmaDest + BitVec.ofNat 16 n) (t.memRead (join v 0 + BitVec.ofNat 16 n))

/-- The DMA copy: 160 bytes at once, by plain stores (20_memory.md R55). -/
def State.dmaCopy (s : State) (v : Byte) : State := s.dmaBytes v 160

/-- The shade of a two-bit code (61_ppu.md R302). -/
def Shade.ofCode : Fin 4 → Shade
  | 0 => .white
  | 1 => .lightGray
  | 2 => .darkGray
  | 3 => .black

/-- The code of a shade (61_ppu.md R302). -/
def Shade.code : Shade → Fin 4
  | .white => 0
  | .lightGray => 1
  | .darkGray => 2
  | .black => 3

/-- The palette a byte written to BGP sets: entry i is bits 2i+1..2i (61_ppu.md R303). -/
def Palette.ofByte (v : Byte) : Palette :=
  let entry (i : Nat) : Shade := Shade.ofCode (Fin.ofNat 4 (v.toNat >>> (2 * i)))
  ⟨entry 0, entry 1, entry 2, entry 3⟩

/-- The write observers of an address, run after the store: the DMA copy and the palette update (20_memory.md R52, R54). -/
def State.observe (s : State) (a : Word) (v : Byte) : State :=
  if a = addrDma then (if s.cfg.dmaEnabled then s.dmaCopy v else s)
  else if a = addrBgp then s.setPalette (Palette.ofByte v)
  else s

/-- `MemWrite(addr, 1, v)`: the store, then the observers of that address (20_memory.md R52). -/
def State.memWrite (s : State) (a : Word) (v : Byte) : State := (s.plainWrite a v).observe a v

/-- `Push16(v)`: the high byte at the new SP, written first, the low byte above it (20_memory.md R57). -/
def State.push16 (s : State) (v : Word) : State :=
  let t := s.setSp (s.cpu.sp - 2)
  (t.memWrite t.cpu.sp (hi v)).memWrite (t.cpu.sp + 1) (lo v)

/-- The word that `Pop16()` returns: the byte at SP is the high byte (20_memory.md R58). -/
def State.stackTop (s : State) : Word := join (s.memRead s.cpu.sp) (s.memRead (s.cpu.sp + 1))

/-- What `Pop16()` does to the state: SP goes up by 2 (20_memory.md R58). -/
def State.dropTop (s : State) : State := s.setSp (s.cpu.sp + 2)

/-! ## The step's own operations -/

/-- The count an instruction reports (50_cpu_driver.md R250; log entry 2). -/
def State.report (s : State) (k : CycleKey) : State := { s with cycles := s.cfg.cyclesOf k }

/-- `pc <- u16(pc + size)`, before the handler runs (10_state.md R28; 50_cpu_driver.md R250). -/
def State.advancePc (s : State) (size : Nat) : State := s.setPc (s.cpu.pc + BitVec.ofNat 16 size)

/-- `applyEiDelay`, at the end of every step that did not fault (50_cpu_driver.md R251). -/
def State.applyEiDelay (s : State) : State :=
  match s.cpu.eiDelay with
  | 0 => s
  | 1 => (s.setEiDelay 0).setIme true
  | 2 => s.setEiDelay 1

/-- The numeric code of a DecodeError kind (60_exceptions.md R280). -/
def DecodeErrorKind.code : DecodeErrorKind → Nat
  | .unknownOpcode => 0
  | .unknownPrefixedOpcode => 1
  | .outOfRange => 2

/-- `raise DecodeError(kind, addr, byte)` (00_scope.md R10; 60_exceptions.md R280). -/
def decodeFault (kind : DecodeErrorKind) (addr : Word) (byte : Byte) : Fault := .decodeError kind addr byte

end Sys2Proof.Machine
end

