-- ==== Sys2Proof/Machine/Apu.lean ====
section
/-! DEFINITION. The APU: triggers, channel timers, volume decay, duty waveforms, the mix and the sample timer (62_apu.md). -/

namespace Sys2Proof.Machine

/-- The two square channels (62_apu.md R330, R331). -/
inductive ChannelId
  | one | two
deriving DecidableEq, Repr

/-- NRc1: duty select in bits 7..6 (62_apu.md R331). -/
def ChannelId.nr1 : ChannelId → Word
  | .one => 0xFF11
  | .two => 0xFF16

/-- NRc2: start volume in bits 7..4, envelope period in bits 2..0 (62_apu.md R331). -/
def ChannelId.nr2 : ChannelId → Word
  | .one => 0xFF12
  | .two => 0xFF17

/-- NRc3: the low 8 bits of the frequency (62_apu.md R331). -/
def ChannelId.nr3 : ChannelId → Word
  | .one => 0xFF13
  | .two => 0xFF18

/-- NRc4: the trigger in bit 7, the high 3 bits of the frequency in bits 2..0 (62_apu.md R331). -/
def ChannelId.nr4 : ChannelId → Word
  | .one => 0xFF14
  | .two => 0xFF19

/-- The state of a channel. -/
def State.channel (s : State) : ChannelId → Channel
  | .one => s.apu.ch1
  | .two => s.apu.ch2

/-- Replacing the state of a channel. -/
def State.setChannel (s : State) (c : ChannelId) (ch : Channel) : State :=
  match c with
  | .one => { s with apu := { s.apu with ch1 := ch } }
  | .two => { s with apu := { s.apu with ch2 := ch } }

/-- The 11-bit frequency of a channel's registers (62_apu.md R331). -/
def State.frequency (s : State) (c : ChannelId) : Nat :=
  (s.memRead c.nr4).toNat % 8 * 256 + (s.memRead c.nr3).toNat

/-- A channel as a trigger re-initialises it from its registers (62_apu.md R332). -/
def State.triggered (s : State) (c : ChannelId) : Channel :=
  let reload := (2048 - s.frequency c) * s.cfg.dutyStepScale
  let period := (s.memRead c.nr2).toNat % 8 * s.cfg.envelopeStepCycles
  { enabled := true
    volume := Fin.ofNat 16 ((s.memRead c.nr2).toNat / 16)
    duty := Fin.ofNat 4 ((s.memRead c.nr1).toNat / 64)
    dutyPos := 0
    chanTimer := reload
    chanReload := reload
    periodTimer := period
    periodReload := period }

/-- The trigger of one channel, at the start of a tick: when bit 7 of NRc4 is set the channel starts again and the bit is cleared by a
plain store (62_apu.md R332). -/
def State.trigger (s : State) (c : ChannelId) : State :=
  if (s.memRead c.nr4).getLsbD 7 then
    (s.setChannel c (s.triggered c)).plainWrite c.nr4 (s.memRead c.nr4 &&& 0x7F)
  else s

/-- `countDown(t, reload, cycles)`: the timer after the cycles and the number of events. The loop of 62_apu.md R333 adds `reload` until
the timer is above 0; its count is one for reaching 0 and one more for every whole `reload` beyond (log entry 6). -/
def countDown (t reload cycles : Nat) : Nat × Nat :=
  if cycles < t then (t - cycles, 0)
  else (reload - (cycles - t) % reload, (cycles - t) / reload + 1)

/-- The channel timer and the duty position (62_apu.md R334). -/
def Channel.stepDuty (ch : Channel) (cycles : Nat) : Channel :=
  if ch.enabled then
    let r := countDown ch.chanTimer ch.chanReload cycles
    { ch with chanTimer := r.1, dutyPos := Fin.ofNat 8 (ch.dutyPos.val + r.2) }
  else ch

/-- One volume step: down by one, not below 0, and a volume of 0 disables the channel (62_apu.md R335). -/
def Channel.decay (ch : Channel) : Channel :=
  let v := ch.volume.val - 1
  { ch with volume := Fin.ofNat 16 v, enabled := if v = 0 then false else ch.enabled }

/-- "repeat k times" of 62_apu.md R335. -/
def Channel.decays (ch : Channel) : Nat → Channel
  | 0 => ch
  | k + 1 => (ch.decays k).decay

/-- The period timer and the volume (62_apu.md R335). -/
def Channel.stepVolume (ch : Channel) (cycles : Nat) : Channel :=
  if ch.enabled ∧ ch.periodReload > 0 then
    let r := countDown ch.periodTimer ch.periodReload cycles
    { ch with periodTimer := r.1 }.decays r.2
  else ch

/-- A channel's part of a tick: channel timer, then period timer (62_apu.md R339). -/
def Channel.advance (ch : Channel) (cycles : Nat) : Channel := (ch.stepDuty cycles).stepVolume cycles

/-- `DUTY[d][p]` (62_apu.md R336). -/
def dutyTable : List (List Nat) :=
  [[0, 0, 0, 0, 0, 0, 0, 1],
   [1, 0, 0, 0, 0, 0, 0, 1],
   [1, 0, 0, 0, 0, 1, 1, 1],
   [0, 1, 1, 1, 1, 1, 1, 0]]

/-- The entry of the duty table (62_apu.md R336). -/
def dutyBit (d : Fin 4) (p : Fin 8) : Nat := (dutyTable.getD d.val []).getD p.val 0

/-- `out(c)`, 0..15 (62_apu.md R337). -/
def Channel.output (ch : Channel) : Nat := if ch.enabled then ch.volume.val * dutyBit ch.duty ch.dutyPos else 0

/-- `mix`, the sum of the channel outputs, as an i16 (62_apu.md R337). -/
def Apu.mix (u : Apu) : BitVec 16 := BitVec.ofNat 16 (u.ch1.output + u.ch2.output)

/-- The sample timer: each event delivers one sample of the current mix (62_apu.md R338). -/
def State.sampleTick (s : State) (cycles : Nat) : State :=
  let r := countDown s.apu.sampleTimer s.cfg.samplePeriod cycles
  { s with apu := { s.apu with sampleTimer := r.1 }, samples := s.samples ++ List.replicate r.2 s.apu.mix }

/-- Both channels' part of a tick (62_apu.md R339). -/
def State.advanceChannels (s : State) (cycles : Nat) : State :=
  { s with apu := { s.apu with ch1 := s.apu.ch1.advance cycles, ch2 := s.apu.ch2.advance cycles } }

/-- `apuTick(s, cycles)`: the triggers, channel 1, channel 2, the mix and the sample timer, in that order (62_apu.md R339). -/
def State.apuTick (s : State) (cycles : Nat) : State :=
  (((s.trigger .one).trigger .two).advanceChannels cycles).sampleTick cycles

end Sys2Proof.Machine
end

