-- ==== Sys2Proof/Machine/Operands.lean ====
section
/-! DEFINITION. The operand forms (30_encoding.md R83; 41_arith.md R161): where a memory operand lies and what a source operand is. -/

namespace Sys2Proof.Machine

/-- `a8`: the address 0xFF00 + imm8 (30_encoding.md R83). -/
def highPage (n : Byte) : Word := join 0xFF n

/-- `(C)`: the address 0xFF00 + x[C], read at execution (30_encoding.md R83). -/
def State.highReg (s : State) : Word := highPage s.cpu.c

/-- `(HL)` as a source: the memory byte at x[HL] (30_encoding.md R82, R83). -/
def State.atHl (s : State) : Byte := s.memRead s.hl

/-- `(HL)` as a destination (30_encoding.md R82, R83). -/
def State.storeHl (s : State) (v : Byte) : State := s.memWrite s.hl v

/-- The post-increment of `(HL+)`, after the transfer (70_reset_and_hazards.md R366). -/
def State.incHl (s : State) : State := s.setPair .hl (s.hl + 1)

/-- The post-decrement of `(HL-)`, after the transfer (70_reset_and_hazards.md R366). -/
def State.decHl (s : State) : State := s.setPair .hl (s.hl - 1)

/-- The target of a relative jump: `pc` is already past the instruction (44_control.md R210). -/
def State.relative (s : State) (e : Byte) : Word := s.cpu.pc + sext e

/-- Whether a condition holds now (10_state.md R32). -/
def State.cond (s : State) (cc : Cond) : Bool := condHolds cc s.cpu.flags

/-- What an ALU operation on A with source value `v` does: CP writes the flags only, every other operation A and the flags
(41_arith.md R161). -/
def State.aluWith (s : State) (op : Alu) (v : Byte) : State :=
  let r := aluResult op s.cpu.a v s.cpu.flags.c
  match op with
  | .cp => s.setFlags r.flags
  | _ => (s.setReg .a r.res).setFlags r.flags

end Sys2Proof.Machine
end

