-- ==== Sys2Proof/Machine/Arith.lean ====
section
/-! DEFINITION. Meanings: the 8-bit ALU instructions and ADD HL,rr (41_arith.md R160 to R182).
First the operation each form shares, then one meaning for each row of spec/opcode_table.json. -/

namespace Sys2Proof.Machine

/-- An ALU operation on A and a register (R162, R165, R167, R170, R173, R176, R179). -/
def aluReg (op : Alu) (r : Reg) (s : State) : State := (s.aluWith op (s.reg r)).report (.aluReg op)

/-- An ALU operation on A and the byte at x[HL] (R163, R166, R168, R171, R174, R177, R180). -/
def aluInd (op : Alu) (s : State) : State := (s.aluWith op s.atHl).report (.aluInd op)

/-- An ALU operation on A and an immediate (R164, R166, R169, R172, R175, R178, R181). -/
def aluImm (op : Alu) (n : Byte) (s : State) : State := (s.aluWith op n).report (.aluImm op)

/-- ADD HL,rr (R182). -/
def addHl (p : Pair) (s : State) : State :=
  ((s.setPair .hl (s.hl + s.pair p)).setFlags (addHlFlags s.hl (s.pair p) s.cpu.flags)).report .addHl

/-- ADD A,B (R162). -/
def exec_add_A_B (s : State) : Host.Outcome State Fault Refusal := .next (aluReg .add .b s)

/-- ADD A,C (R162). -/
def exec_add_A_C (s : State) : Host.Outcome State Fault Refusal := .next (aluReg .add .c s)

/-- ADD A,D (R162). -/
def exec_add_A_D (s : State) : Host.Outcome State Fault Refusal := .next (aluReg .add .d s)

/-- ADD A,E (R162). -/
def exec_add_A_E (s : State) : Host.Outcome State Fault Refusal := .next (aluReg .add .e s)

/-- ADD A,H (R162). -/
def exec_add_A_H (s : State) : Host.Outcome State Fault Refusal := .next (aluReg .add .h s)

/-- ADD A,L (R162). -/
def exec_add_A_L (s : State) : Host.Outcome State Fault Refusal := .next (aluReg .add .l s)

/-- ADD A,A (R162). -/
def exec_add_A_A (s : State) : Host.Outcome State Fault Refusal := .next (aluReg .add .a s)

/-- ADC A,B (R165). -/
def exec_adc_A_B (s : State) : Host.Outcome State Fault Refusal := .next (aluReg .adc .b s)

/-- ADC A,C (R165). -/
def exec_adc_A_C (s : State) : Host.Outcome State Fault Refusal := .next (aluReg .adc .c s)

/-- ADC A,D (R165). -/
def exec_adc_A_D (s : State) : Host.Outcome State Fault Refusal := .next (aluReg .adc .d s)

/-- ADC A,E (R165). -/
def exec_adc_A_E (s : State) : Host.Outcome State Fault Refusal := .next (aluReg .adc .e s)

/-- ADC A,H (R165). -/
def exec_adc_A_H (s : State) : Host.Outcome State Fault Refusal := .next (aluReg .adc .h s)

/-- ADC A,L (R165). -/
def exec_adc_A_L (s : State) : Host.Outcome State Fault Refusal := .next (aluReg .adc .l s)

/-- ADC A,A (R165). -/
def exec_adc_A_A (s : State) : Host.Outcome State Fault Refusal := .next (aluReg .adc .a s)

/-- SUB B (R167). -/
def exec_sub_B (s : State) : Host.Outcome State Fault Refusal := .next (aluReg .sub .b s)

/-- SUB C (R167). -/
def exec_sub_C (s : State) : Host.Outcome State Fault Refusal := .next (aluReg .sub .c s)

/-- SUB D (R167). -/
def exec_sub_D (s : State) : Host.Outcome State Fault Refusal := .next (aluReg .sub .d s)

/-- SUB E (R167). -/
def exec_sub_E (s : State) : Host.Outcome State Fault Refusal := .next (aluReg .sub .e s)

/-- SUB H (R167). -/
def exec_sub_H (s : State) : Host.Outcome State Fault Refusal := .next (aluReg .sub .h s)

/-- SUB L (R167). -/
def exec_sub_L (s : State) : Host.Outcome State Fault Refusal := .next (aluReg .sub .l s)

/-- SUB A (R167). -/
def exec_sub_A (s : State) : Host.Outcome State Fault Refusal := .next (aluReg .sub .a s)

/-- AND B (R170). -/
def exec_and_B (s : State) : Host.Outcome State Fault Refusal := .next (aluReg .and .b s)

/-- AND C (R170). -/
def exec_and_C (s : State) : Host.Outcome State Fault Refusal := .next (aluReg .and .c s)

/-- AND D (R170). -/
def exec_and_D (s : State) : Host.Outcome State Fault Refusal := .next (aluReg .and .d s)

/-- AND E (R170). -/
def exec_and_E (s : State) : Host.Outcome State Fault Refusal := .next (aluReg .and .e s)

/-- AND H (R170). -/
def exec_and_H (s : State) : Host.Outcome State Fault Refusal := .next (aluReg .and .h s)

/-- AND L (R170). -/
def exec_and_L (s : State) : Host.Outcome State Fault Refusal := .next (aluReg .and .l s)

/-- AND A (R170). -/
def exec_and_A (s : State) : Host.Outcome State Fault Refusal := .next (aluReg .and .a s)

/-- XOR B (R173). -/
def exec_xor_B (s : State) : Host.Outcome State Fault Refusal := .next (aluReg .xor .b s)

/-- XOR C (R173). -/
def exec_xor_C (s : State) : Host.Outcome State Fault Refusal := .next (aluReg .xor .c s)

/-- XOR D (R173). -/
def exec_xor_D (s : State) : Host.Outcome State Fault Refusal := .next (aluReg .xor .d s)

/-- XOR E (R173). -/
def exec_xor_E (s : State) : Host.Outcome State Fault Refusal := .next (aluReg .xor .e s)

/-- XOR H (R173). -/
def exec_xor_H (s : State) : Host.Outcome State Fault Refusal := .next (aluReg .xor .h s)

/-- XOR L (R173). -/
def exec_xor_L (s : State) : Host.Outcome State Fault Refusal := .next (aluReg .xor .l s)

/-- XOR A (R173). -/
def exec_xor_A (s : State) : Host.Outcome State Fault Refusal := .next (aluReg .xor .a s)

/-- OR B (R176). -/
def exec_or_B (s : State) : Host.Outcome State Fault Refusal := .next (aluReg .or .b s)

/-- OR C (R176). -/
def exec_or_C (s : State) : Host.Outcome State Fault Refusal := .next (aluReg .or .c s)

/-- OR D (R176). -/
def exec_or_D (s : State) : Host.Outcome State Fault Refusal := .next (aluReg .or .d s)

/-- OR E (R176). -/
def exec_or_E (s : State) : Host.Outcome State Fault Refusal := .next (aluReg .or .e s)

/-- OR H (R176). -/
def exec_or_H (s : State) : Host.Outcome State Fault Refusal := .next (aluReg .or .h s)

/-- OR L (R176). -/
def exec_or_L (s : State) : Host.Outcome State Fault Refusal := .next (aluReg .or .l s)

/-- OR A (R176). -/
def exec_or_A (s : State) : Host.Outcome State Fault Refusal := .next (aluReg .or .a s)

/-- CP B (R179). -/
def exec_cp_B (s : State) : Host.Outcome State Fault Refusal := .next (aluReg .cp .b s)

/-- CP C (R179). -/
def exec_cp_C (s : State) : Host.Outcome State Fault Refusal := .next (aluReg .cp .c s)

/-- CP D (R179). -/
def exec_cp_D (s : State) : Host.Outcome State Fault Refusal := .next (aluReg .cp .d s)

/-- CP E (R179). -/
def exec_cp_E (s : State) : Host.Outcome State Fault Refusal := .next (aluReg .cp .e s)

/-- CP H (R179). -/
def exec_cp_H (s : State) : Host.Outcome State Fault Refusal := .next (aluReg .cp .h s)

/-- CP L (R179). -/
def exec_cp_L (s : State) : Host.Outcome State Fault Refusal := .next (aluReg .cp .l s)

/-- CP A (R179). -/
def exec_cp_A (s : State) : Host.Outcome State Fault Refusal := .next (aluReg .cp .a s)

/-- ADD A,(HL) (R163). -/
def exec_add_A_atHL (s : State) : Host.Outcome State Fault Refusal := .next (aluInd .add s)

/-- ADC A,(HL) (R166). -/
def exec_adc_A_atHL (s : State) : Host.Outcome State Fault Refusal := .next (aluInd .adc s)

/-- SUB (HL) (R168). -/
def exec_sub_atHL (s : State) : Host.Outcome State Fault Refusal := .next (aluInd .sub s)

/-- AND (HL) (R171). -/
def exec_and_atHL (s : State) : Host.Outcome State Fault Refusal := .next (aluInd .and s)

/-- XOR (HL) (R174). -/
def exec_xor_atHL (s : State) : Host.Outcome State Fault Refusal := .next (aluInd .xor s)

/-- OR (HL) (R177). -/
def exec_or_atHL (s : State) : Host.Outcome State Fault Refusal := .next (aluInd .or s)

/-- CP (HL) (R180). -/
def exec_cp_atHL (s : State) : Host.Outcome State Fault Refusal := .next (aluInd .cp s)

/-- ADD A,d8 (R164). -/
def exec_add_A_d8 (n : Byte) (s : State) : Host.Outcome State Fault Refusal := .next (aluImm .add n s)

/-- ADC A,d8 (R166). -/
def exec_adc_A_d8 (n : Byte) (s : State) : Host.Outcome State Fault Refusal := .next (aluImm .adc n s)

/-- SUB d8 (R169). -/
def exec_sub_d8 (n : Byte) (s : State) : Host.Outcome State Fault Refusal := .next (aluImm .sub n s)

/-- AND d8 (R172). -/
def exec_and_d8 (n : Byte) (s : State) : Host.Outcome State Fault Refusal := .next (aluImm .and n s)

/-- XOR d8 (R175). -/
def exec_xor_d8 (n : Byte) (s : State) : Host.Outcome State Fault Refusal := .next (aluImm .xor n s)

/-- OR d8 (R178). -/
def exec_or_d8 (n : Byte) (s : State) : Host.Outcome State Fault Refusal := .next (aluImm .or n s)

/-- CP d8 (R181). -/
def exec_cp_d8 (n : Byte) (s : State) : Host.Outcome State Fault Refusal := .next (aluImm .cp n s)

/-- ADD HL,BC (R182). -/
def exec_add_HL_BC (s : State) : Host.Outcome State Fault Refusal := .next (addHl .bc s)

/-- ADD HL,DE (R182). -/
def exec_add_HL_DE (s : State) : Host.Outcome State Fault Refusal := .next (addHl .de s)

/-- ADD HL,HL (R182). -/
def exec_add_HL_HL (s : State) : Host.Outcome State Fault Refusal := .next (addHl .hl s)

/-- ADD HL,SP (R182). -/
def exec_add_HL_SP (s : State) : Host.Outcome State Fault Refusal := .next (addHl .sp s)

end Sys2Proof.Machine
end

