-- ==== Sys2Proof/Machine/BitRotate.lean ====
section
/-! DEFINITION. Meanings: bit test and rotate left (43_bit_rotate.md R200 to R203).
First the operation each form shares, then one meaning for each row of spec/opcode_table.json. -/

namespace Sys2Proof.Machine

/-- BIT b,r: flags only (R200). -/
def bitReg (b : Fin 8) (r : Reg) (s : State) : State :=
  (s.setFlags (bitFlags b (s.reg r) s.cpu.flags)).report .bitReg

/-- BIT b,(HL): flags only (R201). -/
def bitInd (b : Fin 8) (s : State) : State := (s.setFlags (bitFlags b s.atHl s.cpu.flags)).report .bitInd

/-- RL r (R202). -/
def rlReg (r : Reg) (s : State) : State :=
  let res := rotateLeft (s.reg r) s.cpu.flags.c
  ((s.setReg r res).setFlags (rlFlags (s.reg r) res)).report .rlReg

/-- RLA (R203). -/
def rla (s : State) : State :=
  ((s.setReg .a (rotateLeft s.cpu.a s.cpu.flags.c)).setFlags (rlaFlags s.cpu.a)).report .rla

/-- BIT 0,B (R200). -/
def exec_bit_0_B (s : State) : Host.Outcome State Fault Refusal := .next (bitReg 0 .b s)

/-- BIT 0,C (R200). -/
def exec_bit_0_C (s : State) : Host.Outcome State Fault Refusal := .next (bitReg 0 .c s)

/-- BIT 0,D (R200). -/
def exec_bit_0_D (s : State) : Host.Outcome State Fault Refusal := .next (bitReg 0 .d s)

/-- BIT 0,E (R200). -/
def exec_bit_0_E (s : State) : Host.Outcome State Fault Refusal := .next (bitReg 0 .e s)

/-- BIT 0,H (R200). -/
def exec_bit_0_H (s : State) : Host.Outcome State Fault Refusal := .next (bitReg 0 .h s)

/-- BIT 0,L (R200). -/
def exec_bit_0_L (s : State) : Host.Outcome State Fault Refusal := .next (bitReg 0 .l s)

/-- BIT 0,A (R200). -/
def exec_bit_0_A (s : State) : Host.Outcome State Fault Refusal := .next (bitReg 0 .a s)

/-- BIT 1,B (R200). -/
def exec_bit_1_B (s : State) : Host.Outcome State Fault Refusal := .next (bitReg 1 .b s)

/-- BIT 1,C (R200). -/
def exec_bit_1_C (s : State) : Host.Outcome State Fault Refusal := .next (bitReg 1 .c s)

/-- BIT 1,D (R200). -/
def exec_bit_1_D (s : State) : Host.Outcome State Fault Refusal := .next (bitReg 1 .d s)

/-- BIT 1,E (R200). -/
def exec_bit_1_E (s : State) : Host.Outcome State Fault Refusal := .next (bitReg 1 .e s)

/-- BIT 1,H (R200). -/
def exec_bit_1_H (s : State) : Host.Outcome State Fault Refusal := .next (bitReg 1 .h s)

/-- BIT 1,L (R200). -/
def exec_bit_1_L (s : State) : Host.Outcome State Fault Refusal := .next (bitReg 1 .l s)

/-- BIT 1,A (R200). -/
def exec_bit_1_A (s : State) : Host.Outcome State Fault Refusal := .next (bitReg 1 .a s)

/-- BIT 2,B (R200). -/
def exec_bit_2_B (s : State) : Host.Outcome State Fault Refusal := .next (bitReg 2 .b s)

/-- BIT 2,C (R200). -/
def exec_bit_2_C (s : State) : Host.Outcome State Fault Refusal := .next (bitReg 2 .c s)

/-- BIT 2,D (R200). -/
def exec_bit_2_D (s : State) : Host.Outcome State Fault Refusal := .next (bitReg 2 .d s)

/-- BIT 2,E (R200). -/
def exec_bit_2_E (s : State) : Host.Outcome State Fault Refusal := .next (bitReg 2 .e s)

/-- BIT 2,H (R200). -/
def exec_bit_2_H (s : State) : Host.Outcome State Fault Refusal := .next (bitReg 2 .h s)

/-- BIT 2,L (R200). -/
def exec_bit_2_L (s : State) : Host.Outcome State Fault Refusal := .next (bitReg 2 .l s)

/-- BIT 2,A (R200). -/
def exec_bit_2_A (s : State) : Host.Outcome State Fault Refusal := .next (bitReg 2 .a s)

/-- BIT 3,B (R200). -/
def exec_bit_3_B (s : State) : Host.Outcome State Fault Refusal := .next (bitReg 3 .b s)

/-- BIT 3,C (R200). -/
def exec_bit_3_C (s : State) : Host.Outcome State Fault Refusal := .next (bitReg 3 .c s)

/-- BIT 3,D (R200). -/
def exec_bit_3_D (s : State) : Host.Outcome State Fault Refusal := .next (bitReg 3 .d s)

/-- BIT 3,E (R200). -/
def exec_bit_3_E (s : State) : Host.Outcome State Fault Refusal := .next (bitReg 3 .e s)

/-- BIT 3,H (R200). -/
def exec_bit_3_H (s : State) : Host.Outcome State Fault Refusal := .next (bitReg 3 .h s)

/-- BIT 3,L (R200). -/
def exec_bit_3_L (s : State) : Host.Outcome State Fault Refusal := .next (bitReg 3 .l s)

/-- BIT 3,A (R200). -/
def exec_bit_3_A (s : State) : Host.Outcome State Fault Refusal := .next (bitReg 3 .a s)

/-- BIT 4,B (R200). -/
def exec_bit_4_B (s : State) : Host.Outcome State Fault Refusal := .next (bitReg 4 .b s)

/-- BIT 4,C (R200). -/
def exec_bit_4_C (s : State) : Host.Outcome State Fault Refusal := .next (bitReg 4 .c s)

/-- BIT 4,D (R200). -/
def exec_bit_4_D (s : State) : Host.Outcome State Fault Refusal := .next (bitReg 4 .d s)

/-- BIT 4,E (R200). -/
def exec_bit_4_E (s : State) : Host.Outcome State Fault Refusal := .next (bitReg 4 .e s)

/-- BIT 4,H (R200). -/
def exec_bit_4_H (s : State) : Host.Outcome State Fault Refusal := .next (bitReg 4 .h s)

/-- BIT 4,L (R200). -/
def exec_bit_4_L (s : State) : Host.Outcome State Fault Refusal := .next (bitReg 4 .l s)

/-- BIT 4,A (R200). -/
def exec_bit_4_A (s : State) : Host.Outcome State Fault Refusal := .next (bitReg 4 .a s)

/-- BIT 5,B (R200). -/
def exec_bit_5_B (s : State) : Host.Outcome State Fault Refusal := .next (bitReg 5 .b s)

/-- BIT 5,C (R200). -/
def exec_bit_5_C (s : State) : Host.Outcome State Fault Refusal := .next (bitReg 5 .c s)

/-- BIT 5,D (R200). -/
def exec_bit_5_D (s : State) : Host.Outcome State Fault Refusal := .next (bitReg 5 .d s)

/-- BIT 5,E (R200). -/
def exec_bit_5_E (s : State) : Host.Outcome State Fault Refusal := .next (bitReg 5 .e s)

/-- BIT 5,H (R200). -/
def exec_bit_5_H (s : State) : Host.Outcome State Fault Refusal := .next (bitReg 5 .h s)

/-- BIT 5,L (R200). -/
def exec_bit_5_L (s : State) : Host.Outcome State Fault Refusal := .next (bitReg 5 .l s)

/-- BIT 5,A (R200). -/
def exec_bit_5_A (s : State) : Host.Outcome State Fault Refusal := .next (bitReg 5 .a s)

/-- BIT 6,B (R200). -/
def exec_bit_6_B (s : State) : Host.Outcome State Fault Refusal := .next (bitReg 6 .b s)

/-- BIT 6,C (R200). -/
def exec_bit_6_C (s : State) : Host.Outcome State Fault Refusal := .next (bitReg 6 .c s)

/-- BIT 6,D (R200). -/
def exec_bit_6_D (s : State) : Host.Outcome State Fault Refusal := .next (bitReg 6 .d s)

/-- BIT 6,E (R200). -/
def exec_bit_6_E (s : State) : Host.Outcome State Fault Refusal := .next (bitReg 6 .e s)

/-- BIT 6,H (R200). -/
def exec_bit_6_H (s : State) : Host.Outcome State Fault Refusal := .next (bitReg 6 .h s)

/-- BIT 6,L (R200). -/
def exec_bit_6_L (s : State) : Host.Outcome State Fault Refusal := .next (bitReg 6 .l s)

/-- BIT 6,A (R200). -/
def exec_bit_6_A (s : State) : Host.Outcome State Fault Refusal := .next (bitReg 6 .a s)

/-- BIT 7,B (R200). -/
def exec_bit_7_B (s : State) : Host.Outcome State Fault Refusal := .next (bitReg 7 .b s)

/-- BIT 7,C (R200). -/
def exec_bit_7_C (s : State) : Host.Outcome State Fault Refusal := .next (bitReg 7 .c s)

/-- BIT 7,D (R200). -/
def exec_bit_7_D (s : State) : Host.Outcome State Fault Refusal := .next (bitReg 7 .d s)

/-- BIT 7,E (R200). -/
def exec_bit_7_E (s : State) : Host.Outcome State Fault Refusal := .next (bitReg 7 .e s)

/-- BIT 7,H (R200). -/
def exec_bit_7_H (s : State) : Host.Outcome State Fault Refusal := .next (bitReg 7 .h s)

/-- BIT 7,L (R200). -/
def exec_bit_7_L (s : State) : Host.Outcome State Fault Refusal := .next (bitReg 7 .l s)

/-- BIT 7,A (R200). -/
def exec_bit_7_A (s : State) : Host.Outcome State Fault Refusal := .next (bitReg 7 .a s)

/-- BIT 0,(HL) (R201). -/
def exec_bit_0_atHL (s : State) : Host.Outcome State Fault Refusal := .next (bitInd 0 s)

/-- BIT 1,(HL) (R201). -/
def exec_bit_1_atHL (s : State) : Host.Outcome State Fault Refusal := .next (bitInd 1 s)

/-- BIT 2,(HL) (R201). -/
def exec_bit_2_atHL (s : State) : Host.Outcome State Fault Refusal := .next (bitInd 2 s)

/-- BIT 3,(HL) (R201). -/
def exec_bit_3_atHL (s : State) : Host.Outcome State Fault Refusal := .next (bitInd 3 s)

/-- BIT 4,(HL) (R201). -/
def exec_bit_4_atHL (s : State) : Host.Outcome State Fault Refusal := .next (bitInd 4 s)

/-- BIT 5,(HL) (R201). -/
def exec_bit_5_atHL (s : State) : Host.Outcome State Fault Refusal := .next (bitInd 5 s)

/-- BIT 6,(HL) (R201). -/
def exec_bit_6_atHL (s : State) : Host.Outcome State Fault Refusal := .next (bitInd 6 s)

/-- BIT 7,(HL) (R201). -/
def exec_bit_7_atHL (s : State) : Host.Outcome State Fault Refusal := .next (bitInd 7 s)

/-- RL B (R202). -/
def exec_rl_B (s : State) : Host.Outcome State Fault Refusal := .next (rlReg .b s)

/-- RL C (R202). -/
def exec_rl_C (s : State) : Host.Outcome State Fault Refusal := .next (rlReg .c s)

/-- RL D (R202). -/
def exec_rl_D (s : State) : Host.Outcome State Fault Refusal := .next (rlReg .d s)

/-- RL E (R202). -/
def exec_rl_E (s : State) : Host.Outcome State Fault Refusal := .next (rlReg .e s)

/-- RL H (R202). -/
def exec_rl_H (s : State) : Host.Outcome State Fault Refusal := .next (rlReg .h s)

/-- RL L (R202). -/
def exec_rl_L (s : State) : Host.Outcome State Fault Refusal := .next (rlReg .l s)

/-- RL A (R202). -/
def exec_rl_A (s : State) : Host.Outcome State Fault Refusal := .next (rlReg .a s)

/-- RLA (R203). -/
def exec_rla (s : State) : Host.Outcome State Fault Refusal := .next (rla s)

end Sys2Proof.Machine
end

