-- ==== Sys2Proof/Machine/Control.lean ====
section
/-! DEFINITION. Meanings: jumps, calls and returns (44_control.md R210 to R219). `pc` is already past the instruction.
First the operation each form shares, then one meaning for each row of spec/opcode_table.json. -/

namespace Sys2Proof.Machine

/-- JR e8 (R210). -/
def jr (e : Byte) (s : State) : State := (s.setPc (s.relative e)).report .jr

/-- JR cc,e8 (R211). -/
def jrCond (cc : Cond) (e : Byte) (s : State) : State :=
  if s.cond cc then (s.setPc (s.relative e)).report .jrTaken else s.report .jrNotTaken

/-- JP a16 (R212). -/
def jp (w : Word) (s : State) : State := (s.setPc w).report .jp

/-- JP cc,a16 (R213). -/
def jpCond (cc : Cond) (w : Word) (s : State) : State :=
  if s.cond cc then (s.setPc w).report .jpTaken else s.report .jpNotTaken

/-- JP (HL): to the value of HL, no memory access (R214). -/
def jpHl (s : State) : State := (s.setPc s.hl).report .jpHl

/-- CALL a16: push the address of the next instruction, then jump (R215). -/
def call (w : Word) (s : State) : State := ((s.push16 s.cpu.pc).setPc w).report .call

/-- CALL cc,a16 (R216). -/
def callCond (cc : Cond) (w : Word) (s : State) : State :=
  if s.cond cc then ((s.push16 s.cpu.pc).setPc w).report .callTaken else s.report .callNotTaken

/-- RET (R217). -/
def ret (s : State) : State := (s.dropTop.setPc s.stackTop).report .ret

/-- RET cc (R218). -/
def retCond (cc : Cond) (s : State) : State :=
  if s.cond cc then (s.dropTop.setPc s.stackTop).report .retTaken else s.report .retNotTaken

/-- RETI: return and set ime at once (R219). -/
def reti (s : State) : State := ((s.dropTop.setPc s.stackTop).setIme true).report .reti

/-- JR e8 (R210). -/
def exec_jr_e8 (n : Byte) (s : State) : Host.Outcome State Fault Refusal := .next (jr n s)

/-- JR NZ,e8 (R211). -/
def exec_jr_NZ_e8 (n : Byte) (s : State) : Host.Outcome State Fault Refusal := .next (jrCond .nz n s)

/-- JR Z,e8 (R211). -/
def exec_jr_Z_e8 (n : Byte) (s : State) : Host.Outcome State Fault Refusal := .next (jrCond .z n s)

/-- JR NC,e8 (R211). -/
def exec_jr_NC_e8 (n : Byte) (s : State) : Host.Outcome State Fault Refusal := .next (jrCond .nc n s)

/-- JR C,e8 (R211). -/
def exec_jr_C_e8 (n : Byte) (s : State) : Host.Outcome State Fault Refusal := .next (jrCond .c n s)

/-- JP a16 (R212). -/
def exec_jp_a16 (w : Word) (s : State) : Host.Outcome State Fault Refusal := .next (jp w s)

/-- JP NZ,a16 (R213). -/
def exec_jp_NZ_a16 (w : Word) (s : State) : Host.Outcome State Fault Refusal := .next (jpCond .nz w s)

/-- JP Z,a16 (R213). -/
def exec_jp_Z_a16 (w : Word) (s : State) : Host.Outcome State Fault Refusal := .next (jpCond .z w s)

/-- JP NC,a16 (R213). -/
def exec_jp_NC_a16 (w : Word) (s : State) : Host.Outcome State Fault Refusal := .next (jpCond .nc w s)

/-- JP C,a16 (R213). -/
def exec_jp_C_a16 (w : Word) (s : State) : Host.Outcome State Fault Refusal := .next (jpCond .c w s)

/-- JP (HL) (R214). -/
def exec_jp_atHL (s : State) : Host.Outcome State Fault Refusal := .next (jpHl s)

/-- CALL a16 (R215). -/
def exec_call_a16 (w : Word) (s : State) : Host.Outcome State Fault Refusal := .next (call w s)

/-- CALL NZ,a16 (R216). -/
def exec_call_NZ_a16 (w : Word) (s : State) : Host.Outcome State Fault Refusal := .next (callCond .nz w s)

/-- CALL Z,a16 (R216). -/
def exec_call_Z_a16 (w : Word) (s : State) : Host.Outcome State Fault Refusal := .next (callCond .z w s)

/-- CALL NC,a16 (R216). -/
def exec_call_NC_a16 (w : Word) (s : State) : Host.Outcome State Fault Refusal := .next (callCond .nc w s)

/-- CALL C,a16 (R216). -/
def exec_call_C_a16 (w : Word) (s : State) : Host.Outcome State Fault Refusal := .next (callCond .c w s)

/-- RET (R217). -/
def exec_ret (s : State) : Host.Outcome State Fault Refusal := .next (ret s)

/-- RET NZ (R218). -/
def exec_ret_NZ (s : State) : Host.Outcome State Fault Refusal := .next (retCond .nz s)

/-- RET Z (R218). -/
def exec_ret_Z (s : State) : Host.Outcome State Fault Refusal := .next (retCond .z s)

/-- RET NC (R218). -/
def exec_ret_NC (s : State) : Host.Outcome State Fault Refusal := .next (retCond .nc s)

/-- RET C (R218). -/
def exec_ret_C (s : State) : Host.Outcome State Fault Refusal := .next (retCond .c s)

/-- RETI (R219). -/
def exec_reti (s : State) : Host.Outcome State Fault Refusal := .next (reti s)

end Sys2Proof.Machine
end

