-- ==== Sys2Proof/Machine/IncDec.lean ====
section
/-! DEFINITION. Meanings: increment and decrement (42_incdec.md R190 to R195).
First the operation each form shares, then one meaning for each row of spec/opcode_table.json. -/

namespace Sys2Proof.Machine

/-- INC r (R190). -/
def incReg (r : Reg) (s : State) : State :=
  ((s.setReg r (s.reg r + 1)).setFlags (incFlags (s.reg r) s.cpu.flags)).report .incReg

/-- INC (HL): read, then write (R191). -/
def incInd (s : State) : State :=
  ((s.storeHl (s.atHl + 1)).setFlags (incFlags s.atHl s.cpu.flags)).report .incInd

/-- DEC r (R192). -/
def decReg (r : Reg) (s : State) : State :=
  ((s.setReg r (s.reg r - 1)).setFlags (decFlags (s.reg r) s.cpu.flags)).report .decReg

/-- DEC (HL): read, then write (R193). -/
def decInd (s : State) : State :=
  ((s.storeHl (s.atHl - 1)).setFlags (decFlags s.atHl s.cpu.flags)).report .decInd

/-- INC rr; no flag (R194). -/
def incPair (p : Pair) (s : State) : State := (s.setPair p (s.pair p + 1)).report .incPair

/-- DEC rr; no flag (R195). -/
def decPair (p : Pair) (s : State) : State := (s.setPair p (s.pair p - 1)).report .decPair

/-- INC B (R190). -/
def exec_inc_B (s : State) : Host.Outcome State Fault Refusal := .next (incReg .b s)

/-- INC C (R190). -/
def exec_inc_C (s : State) : Host.Outcome State Fault Refusal := .next (incReg .c s)

/-- INC D (R190). -/
def exec_inc_D (s : State) : Host.Outcome State Fault Refusal := .next (incReg .d s)

/-- INC E (R190). -/
def exec_inc_E (s : State) : Host.Outcome State Fault Refusal := .next (incReg .e s)

/-- INC H (R190). -/
def exec_inc_H (s : State) : Host.Outcome State Fault Refusal := .next (incReg .h s)

/-- INC L (R190). -/
def exec_inc_L (s : State) : Host.Outcome State Fault Refusal := .next (incReg .l s)

/-- INC A (R190). -/
def exec_inc_A (s : State) : Host.Outcome State Fault Refusal := .next (incReg .a s)

/-- INC (HL) (R191). -/
def exec_inc_atHL (s : State) : Host.Outcome State Fault Refusal := .next (incInd s)

/-- DEC B (R192). -/
def exec_dec_B (s : State) : Host.Outcome State Fault Refusal := .next (decReg .b s)

/-- DEC C (R192). -/
def exec_dec_C (s : State) : Host.Outcome State Fault Refusal := .next (decReg .c s)

/-- DEC D (R192). -/
def exec_dec_D (s : State) : Host.Outcome State Fault Refusal := .next (decReg .d s)

/-- DEC E (R192). -/
def exec_dec_E (s : State) : Host.Outcome State Fault Refusal := .next (decReg .e s)

/-- DEC H (R192). -/
def exec_dec_H (s : State) : Host.Outcome State Fault Refusal := .next (decReg .h s)

/-- DEC L (R192). -/
def exec_dec_L (s : State) : Host.Outcome State Fault Refusal := .next (decReg .l s)

/-- DEC A (R192). -/
def exec_dec_A (s : State) : Host.Outcome State Fault Refusal := .next (decReg .a s)

/-- DEC (HL) (R193). -/
def exec_dec_atHL (s : State) : Host.Outcome State Fault Refusal := .next (decInd s)

/-- INC BC (R194). -/
def exec_inc_BC (s : State) : Host.Outcome State Fault Refusal := .next (incPair .bc s)

/-- INC DE (R194). -/
def exec_inc_DE (s : State) : Host.Outcome State Fault Refusal := .next (incPair .de s)

/-- INC HL (R194). -/
def exec_inc_HL (s : State) : Host.Outcome State Fault Refusal := .next (incPair .hl s)

/-- INC SP (R194). -/
def exec_inc_SP (s : State) : Host.Outcome State Fault Refusal := .next (incPair .sp s)

/-- DEC BC (R195). -/
def exec_dec_BC (s : State) : Host.Outcome State Fault Refusal := .next (decPair .bc s)

/-- DEC DE (R195). -/
def exec_dec_DE (s : State) : Host.Outcome State Fault Refusal := .next (decPair .de s)

/-- DEC HL (R195). -/
def exec_dec_HL (s : State) : Host.Outcome State Fault Refusal := .next (decPair .hl s)

/-- DEC SP (R195). -/
def exec_dec_SP (s : State) : Host.Outcome State Fault Refusal := .next (decPair .sp s)

end Sys2Proof.Machine
end

