-- ==== Sys2Proof/Machine/Load16.lean ====
section
/-! DEFINITION. Meanings: the 16-bit loads (40_nop_load.md R138 to R141).
First the operation each form shares, then one meaning for each row of spec/opcode_table.json. -/

namespace Sys2Proof.Machine

/-- LD rr,d16 (R138). -/
def ldPairImm (p : Pair) (w : Word) (s : State) : State := (s.setPair p w).report .ldPairImm

/-- LD (a16),SP: the low byte first, at the lower address; the second address wraps (R139; 20_memory.md R59). -/
def ldAbsSp (w : Word) (s : State) : State :=
  ((s.memWrite w (lo s.cpu.sp)).memWrite (w + 1) (hi s.cpu.sp)).report .ldAbsSp

/-- LD SP,HL (R140). -/
def ldSpHl (s : State) : State := (s.setSp s.hl).report .ldSpHl

/-- LD HL,SP+e8 (R141). -/
def ldHlSpDisp (e : Byte) (s : State) : State :=
  ((s.setPair .hl (s.cpu.sp + sext e)).setFlags (stackOffsetFlags s.cpu.sp e)).report .ldHlSpDisp

/-- LD BC,d16 (R138). -/
def exec_ld_BC_d16 (w : Word) (s : State) : Host.Outcome State Fault Refusal := .next (ldPairImm .bc w s)

/-- LD DE,d16 (R138). -/
def exec_ld_DE_d16 (w : Word) (s : State) : Host.Outcome State Fault Refusal := .next (ldPairImm .de w s)

/-- LD HL,d16 (R138). -/
def exec_ld_HL_d16 (w : Word) (s : State) : Host.Outcome State Fault Refusal := .next (ldPairImm .hl w s)

/-- LD SP,d16 (R138). -/
def exec_ld_SP_d16 (w : Word) (s : State) : Host.Outcome State Fault Refusal := .next (ldPairImm .sp w s)

/-- LD (a16),SP (R139). -/
def exec_ld_atA16_SP (w : Word) (s : State) : Host.Outcome State Fault Refusal := .next (ldAbsSp w s)

/-- LD SP,HL (R140). -/
def exec_ld_SP_HL (s : State) : Host.Outcome State Fault Refusal := .next (ldSpHl s)

/-- LD HL,SP+e8 (R141). -/
def exec_ld_HL_SPe8 (n : Byte) (s : State) : Host.Outcome State Fault Refusal := .next (ldHlSpDisp n s)

end Sys2Proof.Machine
end

