-- ==== Sys2Proof/Machine/Load8.lean ====
section
/-! DEFINITION. Meanings: NOP and the 8-bit loads (40_nop_load.md R120 to R137).
First the operation each form shares, then one meaning for each row of spec/opcode_table.json. -/

namespace Sys2Proof.Machine

/-- NOP changes nothing (R120). -/
def nop (s : State) : State := s.report .nop

/-- LD r,r' (R121). -/
def ldRegReg (dst r : Reg) (s : State) : State := (s.setReg dst (s.reg r)).report .ldRegReg

/-- LD r,(HL) (R122). -/
def ldRegInd (dst : Reg) (s : State) : State := (s.setReg dst s.atHl).report .ldRegInd

/-- LD (HL),r (R123). -/
def ldIndReg (r : Reg) (s : State) : State := (s.storeHl (s.reg r)).report .ldIndReg

/-- LD r,d8 (R124). -/
def ldRegImm (dst : Reg) (n : Byte) (s : State) : State := (s.setReg dst n).report .ldRegImm

/-- LD (HL),d8 (R125). -/
def ldIndImm (n : Byte) (s : State) : State := (s.storeHl n).report .ldIndImm

/-- LD (BC),A and LD (DE),A (R126). -/
def ldPairIndA (p : IndPair) (s : State) : State := (s.memWrite (s.indPair p) s.cpu.a).report .ldPairIndA

/-- LD A,(BC) and LD A,(DE) (R127). -/
def ldAPairInd (p : IndPair) (s : State) : State := (s.setReg .a (s.memRead (s.indPair p))).report .ldAPairInd

/-- LD (HL+),A: the store, then the increment (R128). -/
def ldIndIncA (s : State) : State := (s.storeHl s.cpu.a).incHl.report .ldIndIncA

/-- LD (HL-),A: the store, then the decrement (R129). -/
def ldIndDecA (s : State) : State := (s.storeHl s.cpu.a).decHl.report .ldIndDecA

/-- LD A,(HL+): the load, then the increment (R130). -/
def ldAIndInc (s : State) : State := (s.setReg .a s.atHl).incHl.report .ldAIndInc

/-- LD A,(HL-): the load, then the decrement (R131). -/
def ldAIndDec (s : State) : State := (s.setReg .a s.atHl).decHl.report .ldAIndDec

/-- LDH (a8),A (R132). -/
def ldhConstA (n : Byte) (s : State) : State := (s.memWrite (highPage n) s.cpu.a).report .ldhConstA

/-- LDH A,(a8) (R133). -/
def ldhAConst (n : Byte) (s : State) : State := (s.setReg .a (s.memRead (highPage n))).report .ldhAConst

/-- LD (C),A (R134). -/
def ldHighRegA (s : State) : State := (s.memWrite s.highReg s.cpu.a).report .ldHighRegA

/-- LD A,(C) (R135). -/
def ldAHighReg (s : State) : State := (s.setReg .a (s.memRead s.highReg)).report .ldAHighReg

/-- LD (a16),A (R136). -/
def ldAbsA (w : Word) (s : State) : State := (s.memWrite w s.cpu.a).report .ldAbsA

/-- LD A,(a16) (R137). -/
def ldAAbs (w : Word) (s : State) : State := (s.setReg .a (s.memRead w)).report .ldAAbs

/-- NOP (R120). -/
def exec_nop (s : State) : Host.Outcome State Fault Refusal := .next (nop s)

/-- LD B,B (R121). -/
def exec_ld_B_B (s : State) : Host.Outcome State Fault Refusal := .next (ldRegReg .b .b s)

/-- LD B,C (R121). -/
def exec_ld_B_C (s : State) : Host.Outcome State Fault Refusal := .next (ldRegReg .b .c s)

/-- LD B,D (R121). -/
def exec_ld_B_D (s : State) : Host.Outcome State Fault Refusal := .next (ldRegReg .b .d s)

/-- LD B,E (R121). -/
def exec_ld_B_E (s : State) : Host.Outcome State Fault Refusal := .next (ldRegReg .b .e s)

/-- LD B,H (R121). -/
def exec_ld_B_H (s : State) : Host.Outcome State Fault Refusal := .next (ldRegReg .b .h s)

/-- LD B,L (R121). -/
def exec_ld_B_L (s : State) : Host.Outcome State Fault Refusal := .next (ldRegReg .b .l s)

/-- LD B,A (R121). -/
def exec_ld_B_A (s : State) : Host.Outcome State Fault Refusal := .next (ldRegReg .b .a s)

/-- LD C,B (R121). -/
def exec_ld_C_B (s : State) : Host.Outcome State Fault Refusal := .next (ldRegReg .c .b s)

/-- LD C,C (R121). -/
def exec_ld_C_C (s : State) : Host.Outcome State Fault Refusal := .next (ldRegReg .c .c s)

/-- LD C,D (R121). -/
def exec_ld_C_D (s : State) : Host.Outcome State Fault Refusal := .next (ldRegReg .c .d s)

/-- LD C,E (R121). -/
def exec_ld_C_E (s : State) : Host.Outcome State Fault Refusal := .next (ldRegReg .c .e s)

/-- LD C,H (R121). -/
def exec_ld_C_H (s : State) : Host.Outcome State Fault Refusal := .next (ldRegReg .c .h s)

/-- LD C,L (R121). -/
def exec_ld_C_L (s : State) : Host.Outcome State Fault Refusal := .next (ldRegReg .c .l s)

/-- LD C,A (R121). -/
def exec_ld_C_A (s : State) : Host.Outcome State Fault Refusal := .next (ldRegReg .c .a s)

/-- LD D,B (R121). -/
def exec_ld_D_B (s : State) : Host.Outcome State Fault Refusal := .next (ldRegReg .d .b s)

/-- LD D,C (R121). -/
def exec_ld_D_C (s : State) : Host.Outcome State Fault Refusal := .next (ldRegReg .d .c s)

/-- LD D,D (R121). -/
def exec_ld_D_D (s : State) : Host.Outcome State Fault Refusal := .next (ldRegReg .d .d s)

/-- LD D,E (R121). -/
def exec_ld_D_E (s : State) : Host.Outcome State Fault Refusal := .next (ldRegReg .d .e s)

/-- LD D,H (R121). -/
def exec_ld_D_H (s : State) : Host.Outcome State Fault Refusal := .next (ldRegReg .d .h s)

/-- LD D,L (R121). -/
def exec_ld_D_L (s : State) : Host.Outcome State Fault Refusal := .next (ldRegReg .d .l s)

/-- LD D,A (R121). -/
def exec_ld_D_A (s : State) : Host.Outcome State Fault Refusal := .next (ldRegReg .d .a s)

/-- LD E,B (R121). -/
def exec_ld_E_B (s : State) : Host.Outcome State Fault Refusal := .next (ldRegReg .e .b s)

/-- LD E,C (R121). -/
def exec_ld_E_C (s : State) : Host.Outcome State Fault Refusal := .next (ldRegReg .e .c s)

/-- LD E,D (R121). -/
def exec_ld_E_D (s : State) : Host.Outcome State Fault Refusal := .next (ldRegReg .e .d s)

/-- LD E,E (R121). -/
def exec_ld_E_E (s : State) : Host.Outcome State Fault Refusal := .next (ldRegReg .e .e s)

/-- LD E,H (R121). -/
def exec_ld_E_H (s : State) : Host.Outcome State Fault Refusal := .next (ldRegReg .e .h s)

/-- LD E,L (R121). -/
def exec_ld_E_L (s : State) : Host.Outcome State Fault Refusal := .next (ldRegReg .e .l s)

/-- LD E,A (R121). -/
def exec_ld_E_A (s : State) : Host.Outcome State Fault Refusal := .next (ldRegReg .e .a s)

/-- LD H,B (R121). -/
def exec_ld_H_B (s : State) : Host.Outcome State Fault Refusal := .next (ldRegReg .h .b s)

/-- LD H,C (R121). -/
def exec_ld_H_C (s : State) : Host.Outcome State Fault Refusal := .next (ldRegReg .h .c s)

/-- LD H,D (R121). -/
def exec_ld_H_D (s : State) : Host.Outcome State Fault Refusal := .next (ldRegReg .h .d s)

/-- LD H,E (R121). -/
def exec_ld_H_E (s : State) : Host.Outcome State Fault Refusal := .next (ldRegReg .h .e s)

/-- LD H,H (R121). -/
def exec_ld_H_H (s : State) : Host.Outcome State Fault Refusal := .next (ldRegReg .h .h s)

/-- LD H,L (R121). -/
def exec_ld_H_L (s : State) : Host.Outcome State Fault Refusal := .next (ldRegReg .h .l s)

/-- LD H,A (R121). -/
def exec_ld_H_A (s : State) : Host.Outcome State Fault Refusal := .next (ldRegReg .h .a s)

/-- LD L,B (R121). -/
def exec_ld_L_B (s : State) : Host.Outcome State Fault Refusal := .next (ldRegReg .l .b s)

/-- LD L,C (R121). -/
def exec_ld_L_C (s : State) : Host.Outcome State Fault Refusal := .next (ldRegReg .l .c s)

/-- LD L,D (R121). -/
def exec_ld_L_D (s : State) : Host.Outcome State Fault Refusal := .next (ldRegReg .l .d s)

/-- LD L,E (R121). -/
def exec_ld_L_E (s : State) : Host.Outcome State Fault Refusal := .next (ldRegReg .l .e s)

/-- LD L,H (R121). -/
def exec_ld_L_H (s : State) : Host.Outcome State Fault Refusal := .next (ldRegReg .l .h s)

/-- LD L,L (R121). -/
def exec_ld_L_L (s : State) : Host.Outcome State Fault Refusal := .next (ldRegReg .l .l s)

/-- LD L,A (R121). -/
def exec_ld_L_A (s : State) : Host.Outcome State Fault Refusal := .next (ldRegReg .l .a s)

/-- LD A,B (R121). -/
def exec_ld_A_B (s : State) : Host.Outcome State Fault Refusal := .next (ldRegReg .a .b s)

/-- LD A,C (R121). -/
def exec_ld_A_C (s : State) : Host.Outcome State Fault Refusal := .next (ldRegReg .a .c s)

/-- LD A,D (R121). -/
def exec_ld_A_D (s : State) : Host.Outcome State Fault Refusal := .next (ldRegReg .a .d s)

/-- LD A,E (R121). -/
def exec_ld_A_E (s : State) : Host.Outcome State Fault Refusal := .next (ldRegReg .a .e s)

/-- LD A,H (R121). -/
def exec_ld_A_H (s : State) : Host.Outcome State Fault Refusal := .next (ldRegReg .a .h s)

/-- LD A,L (R121). -/
def exec_ld_A_L (s : State) : Host.Outcome State Fault Refusal := .next (ldRegReg .a .l s)

/-- LD A,A (R121). -/
def exec_ld_A_A (s : State) : Host.Outcome State Fault Refusal := .next (ldRegReg .a .a s)

/-- LD B,(HL) (R122). -/
def exec_ld_B_atHL (s : State) : Host.Outcome State Fault Refusal := .next (ldRegInd .b s)

/-- LD C,(HL) (R122). -/
def exec_ld_C_atHL (s : State) : Host.Outcome State Fault Refusal := .next (ldRegInd .c s)

/-- LD D,(HL) (R122). -/
def exec_ld_D_atHL (s : State) : Host.Outcome State Fault Refusal := .next (ldRegInd .d s)

/-- LD E,(HL) (R122). -/
def exec_ld_E_atHL (s : State) : Host.Outcome State Fault Refusal := .next (ldRegInd .e s)

/-- LD H,(HL) (R122). -/
def exec_ld_H_atHL (s : State) : Host.Outcome State Fault Refusal := .next (ldRegInd .h s)

/-- LD L,(HL) (R122). -/
def exec_ld_L_atHL (s : State) : Host.Outcome State Fault Refusal := .next (ldRegInd .l s)

/-- LD A,(HL) (R122). -/
def exec_ld_A_atHL (s : State) : Host.Outcome State Fault Refusal := .next (ldRegInd .a s)

/-- LD (HL),B (R123). -/
def exec_ld_atHL_B (s : State) : Host.Outcome State Fault Refusal := .next (ldIndReg .b s)

/-- LD (HL),C (R123). -/
def exec_ld_atHL_C (s : State) : Host.Outcome State Fault Refusal := .next (ldIndReg .c s)

/-- LD (HL),D (R123). -/
def exec_ld_atHL_D (s : State) : Host.Outcome State Fault Refusal := .next (ldIndReg .d s)

/-- LD (HL),E (R123). -/
def exec_ld_atHL_E (s : State) : Host.Outcome State Fault Refusal := .next (ldIndReg .e s)

/-- LD (HL),H (R123). -/
def exec_ld_atHL_H (s : State) : Host.Outcome State Fault Refusal := .next (ldIndReg .h s)

/-- LD (HL),L (R123). -/
def exec_ld_atHL_L (s : State) : Host.Outcome State Fault Refusal := .next (ldIndReg .l s)

/-- LD (HL),A (R123). -/
def exec_ld_atHL_A (s : State) : Host.Outcome State Fault Refusal := .next (ldIndReg .a s)

/-- LD B,d8 (R124). -/
def exec_ld_B_d8 (n : Byte) (s : State) : Host.Outcome State Fault Refusal := .next (ldRegImm .b n s)

/-- LD C,d8 (R124). -/
def exec_ld_C_d8 (n : Byte) (s : State) : Host.Outcome State Fault Refusal := .next (ldRegImm .c n s)

/-- LD D,d8 (R124). -/
def exec_ld_D_d8 (n : Byte) (s : State) : Host.Outcome State Fault Refusal := .next (ldRegImm .d n s)

/-- LD E,d8 (R124). -/
def exec_ld_E_d8 (n : Byte) (s : State) : Host.Outcome State Fault Refusal := .next (ldRegImm .e n s)

/-- LD H,d8 (R124). -/
def exec_ld_H_d8 (n : Byte) (s : State) : Host.Outcome State Fault Refusal := .next (ldRegImm .h n s)

/-- LD L,d8 (R124). -/
def exec_ld_L_d8 (n : Byte) (s : State) : Host.Outcome State Fault Refusal := .next (ldRegImm .l n s)

/-- LD A,d8 (R124). -/
def exec_ld_A_d8 (n : Byte) (s : State) : Host.Outcome State Fault Refusal := .next (ldRegImm .a n s)

/-- LD (HL),d8 (R125). -/
def exec_ld_atHL_d8 (n : Byte) (s : State) : Host.Outcome State Fault Refusal := .next (ldIndImm n s)

/-- LD (BC),A (R126). -/
def exec_ld_atBC_A (s : State) : Host.Outcome State Fault Refusal := .next (ldPairIndA .bc s)

/-- LD (DE),A (R126). -/
def exec_ld_atDE_A (s : State) : Host.Outcome State Fault Refusal := .next (ldPairIndA .de s)

/-- LD A,(BC) (R127). -/
def exec_ld_A_atBC (s : State) : Host.Outcome State Fault Refusal := .next (ldAPairInd .bc s)

/-- LD A,(DE) (R127). -/
def exec_ld_A_atDE (s : State) : Host.Outcome State Fault Refusal := .next (ldAPairInd .de s)

/-- LD (HL+),A (R128). -/
def exec_ld_atHLinc_A (s : State) : Host.Outcome State Fault Refusal := .next (ldIndIncA s)

/-- LD (HL-),A (R129). -/
def exec_ld_atHLdec_A (s : State) : Host.Outcome State Fault Refusal := .next (ldIndDecA s)

/-- LD A,(HL+) (R130). -/
def exec_ld_A_atHLinc (s : State) : Host.Outcome State Fault Refusal := .next (ldAIndInc s)

/-- LD A,(HL-) (R131). -/
def exec_ld_A_atHLdec (s : State) : Host.Outcome State Fault Refusal := .next (ldAIndDec s)

/-- LDH (a8),A (R132). -/
def exec_ldh_atA8_A (n : Byte) (s : State) : Host.Outcome State Fault Refusal := .next (ldhConstA n s)

/-- LDH A,(a8) (R133). -/
def exec_ldh_A_atA8 (n : Byte) (s : State) : Host.Outcome State Fault Refusal := .next (ldhAConst n s)

/-- LD (C),A (R134). -/
def exec_ld_atC_A (s : State) : Host.Outcome State Fault Refusal := .next (ldHighRegA s)

/-- LD A,(C) (R135). -/
def exec_ld_A_atC (s : State) : Host.Outcome State Fault Refusal := .next (ldAHighReg s)

/-- LD (a16),A (R136). -/
def exec_ld_atA16_A (w : Word) (s : State) : Host.Outcome State Fault Refusal := .next (ldAbsA w s)

/-- LD A,(a16) (R137). -/
def exec_ld_A_atA16 (w : Word) (s : State) : Host.Outcome State Fault Refusal := .next (ldAAbs w s)

end Sys2Proof.Machine
end

