-- ==== Sys2Proof/Machine/Misc.lean ====
section
/-! DEFINITION. Meanings: complement, set-carry, interrupt enable and disable, swap nibbles (46_misc.md R240 to R245).
First the operation each form shares, then one meaning for each row of spec/opcode_table.json. -/

namespace Sys2Proof.Machine

/-- CPL (R240). -/
def cpl (s : State) : State := ((s.setReg .a (0xFF ^^^ s.cpu.a)).setFlags (cplFlags s.cpu.flags)).report .cpl

/-- SCF (R241). -/
def scf (s : State) : State := (s.setFlags (scfFlags s.cpu.flags)).report .scf

/-- EI: schedule the enable (R242). -/
def ei (s : State) : State := (s.setEiDelay 2).report .ei

/-- DI: clear the enable and any scheduled one (R243). -/
def di (s : State) : State := ((s.setIme false).setEiDelay 0).report .di

/-- SWAP r (R244). -/
def swapReg (r : Reg) (s : State) : State :=
  let res := swapNibbles (s.reg r)
  ((s.setReg r res).setFlags (swapFlags res)).report .swapReg

/-- SWAP (HL): read, then write (R245). -/
def swapInd (s : State) : State :=
  let res := swapNibbles s.atHl
  ((s.storeHl res).setFlags (swapFlags res)).report .swapInd

/-- CPL (R240). -/
def exec_cpl (s : State) : Host.Outcome State Fault Refusal := .next (cpl s)

/-- SCF (R241). -/
def exec_scf (s : State) : Host.Outcome State Fault Refusal := .next (scf s)

/-- EI (R242). -/
def exec_ei (s : State) : Host.Outcome State Fault Refusal := .next (ei s)

/-- DI (R243). -/
def exec_di (s : State) : Host.Outcome State Fault Refusal := .next (di s)

/-- SWAP B (R244). -/
def exec_swap_B (s : State) : Host.Outcome State Fault Refusal := .next (swapReg .b s)

/-- SWAP C (R244). -/
def exec_swap_C (s : State) : Host.Outcome State Fault Refusal := .next (swapReg .c s)

/-- SWAP D (R244). -/
def exec_swap_D (s : State) : Host.Outcome State Fault Refusal := .next (swapReg .d s)

/-- SWAP E (R244). -/
def exec_swap_E (s : State) : Host.Outcome State Fault Refusal := .next (swapReg .e s)

/-- SWAP H (R244). -/
def exec_swap_H (s : State) : Host.Outcome State Fault Refusal := .next (swapReg .h s)

/-- SWAP L (R244). -/
def exec_swap_L (s : State) : Host.Outcome State Fault Refusal := .next (swapReg .l s)

/-- SWAP A (R244). -/
def exec_swap_A (s : State) : Host.Outcome State Fault Refusal := .next (swapReg .a s)

/-- SWAP (HL) (R245). -/
def exec_swap_atHL (s : State) : Host.Outcome State Fault Refusal := .next (swapInd s)

end Sys2Proof.Machine
end

