-- ==== Sys2Proof/Machine/Stack.lean ====
section
/-! DEFINITION. Meanings: push, pop and the stack-offset adjustment (45_stack.md R230 to R233).
First the operation each form shares, then one meaning for each row of spec/opcode_table.json. -/

namespace Sys2Proof.Machine

/-- PUSH qq (R230). -/
def push (q : StackPair) (s : State) : State := (s.push16 (s.stackPair q)).report .push

/-- POP qq, POP AF among them (R231, R232). -/
def pop (q : StackPair) (s : State) : State :=
  (s.dropTop.setStackPair q s.stackTop).report (match q with | .af => .popAf | _ => .pop)

/-- ADD SP,e8 (R233). -/
def addSp (e : Byte) (s : State) : State :=
  ((s.setSp (s.cpu.sp + sext e)).setFlags (stackOffsetFlags s.cpu.sp e)).report .addSp

/-- PUSH BC (R230). -/
def exec_push_BC (s : State) : Host.Outcome State Fault Refusal := .next (push .bc s)

/-- PUSH DE (R230). -/
def exec_push_DE (s : State) : Host.Outcome State Fault Refusal := .next (push .de s)

/-- PUSH HL (R230). -/
def exec_push_HL (s : State) : Host.Outcome State Fault Refusal := .next (push .hl s)

/-- PUSH AF (R230). -/
def exec_push_AF (s : State) : Host.Outcome State Fault Refusal := .next (push .af s)

/-- POP BC (R231). -/
def exec_pop_BC (s : State) : Host.Outcome State Fault Refusal := .next (pop .bc s)

/-- POP DE (R231). -/
def exec_pop_DE (s : State) : Host.Outcome State Fault Refusal := .next (pop .de s)

/-- POP HL (R231). -/
def exec_pop_HL (s : State) : Host.Outcome State Fault Refusal := .next (pop .hl s)

/-- POP AF (R232). -/
def exec_pop_AF (s : State) : Host.Outcome State Fault Refusal := .next (pop .af s)

/-- ADD SP,e8 (R233). -/
def exec_add_SP_e8 (n : Byte) (s : State) : Host.Outcome State Fault Refusal := .next (addSp n s)

end Sys2Proof.Machine
end

