-- ==== Sys2Proof/Machine/Shape.lean ====
section
/-! DEFINITION. The decoded instruction as the manual describes it: a category tag and up to two typed arguments (30_encoding.md R92),
and the size derived from them (R84). -/

namespace Sys2Proof

/-- The categories (30_encoding.md R92). -/
inductive Category
  | noOp | load8 | load16 | add | adc | sub | and | xor | or | cp | inc | dec | bitTest | rotateLeft
  | jump | call | ret | push | pop | stackOffset | complement | setCarry | interruptSwitch | swapNibbles
deriving DecidableEq, Repr

/-- The adjustment of a register-indirect argument, after the transfer (30_encoding.md R92). -/
inductive Adjust
  | none | inc | dec
deriving DecidableEq, Repr

/-- The closed set of argument types (30_encoding.md R92). The absolute address label stands bare as a target and in parentheses as a
memory operand, and the displacement of LD HL,SP+e8 is written with SP (R94). -/
inductive Arg
  | reg8 (r : Reg)
  | reg16 (r : Reg16)
  | indirect (r : Reg16) (adj : Adjust)
  | imm8 (n : Byte)
  | imm16 (w : Word)
  | highConst (n : Byte)
  | highReg
  | label (w : Word)
  | atLabel (w : Word)
  | disp (e : Byte)
  | spDisp (e : Byte)
  | cond (cc : Cond)
  | bit (b : Fin 8)
deriving DecidableEq, Repr

/-- Category, arguments, the mnemonic of R94, and whether the category is "two-byte-prefixed" (30_encoding.md R84, R89). -/
structure Shape where
  category : Category
  name : String
  cbPrefixed : Bool
  args : List Arg
deriving DecidableEq, Repr

/-- The bytes an argument adds: "+1 per 8-bit immediate/displacement/high-offset argument, +2 per 16-bit immediate/address-label
argument, +0" otherwise (30_encoding.md R84). -/
def Arg.bytes : Arg → Nat
  | .imm8 _ | .highConst _ | .disp _ | .spDisp _ => 1
  | .imm16 _ | .label _ | .atLabel _ => 2
  | .reg8 _ | .reg16 _ | .indirect _ _ | .highReg | .cond _ | .bit _ => 0

/-- The size: "base 1 byte, +1 for a two-byte-prefixed category", and what the arguments add (30_encoding.md R84). -/
def Shape.size (sh : Shape) : Nat := 1 + (if sh.cbPrefixed then 1 else 0) + (sh.args.map Arg.bytes).sum

/-- The category and arguments of each row (30_encoding.md R90 to R92). -/
def Instr.shape (i : Instr) : Shape :=
  match i with
  | .nop => ⟨.noOp, "NOP", false, []⟩
  | .ld_BC_d16 w => ⟨.load16, "LD", false, [.reg16 .bc, .imm16 w]⟩
  | .ld_atBC_A => ⟨.load8, "LD", false, [.indirect .bc .none, .reg8 .a]⟩
  | .inc_BC => ⟨.inc, "INC", false, [.reg16 .bc]⟩
  | .inc_B => ⟨.inc, "INC", false, [.reg8 .b]⟩
  | .dec_B => ⟨.dec, "DEC", false, [.reg8 .b]⟩
  | .ld_B_d8 n => ⟨.load8, "LD", false, [.reg8 .b, .imm8 n]⟩
  | .ld_atA16_SP w => ⟨.load16, "LD", false, [.atLabel w, .reg16 .sp]⟩
  | .add_HL_BC => ⟨.add, "ADD", false, [.reg16 .hl, .reg16 .bc]⟩
  | .ld_A_atBC => ⟨.load8, "LD", false, [.reg8 .a, .indirect .bc .none]⟩
  | .dec_BC => ⟨.dec, "DEC", false, [.reg16 .bc]⟩
  | .inc_C => ⟨.inc, "INC", false, [.reg8 .c]⟩
  | .dec_C => ⟨.dec, "DEC", false, [.reg8 .c]⟩
  | .ld_C_d8 n => ⟨.load8, "LD", false, [.reg8 .c, .imm8 n]⟩
  | .ld_DE_d16 w => ⟨.load16, "LD", false, [.reg16 .de, .imm16 w]⟩
  | .ld_atDE_A => ⟨.load8, "LD", false, [.indirect .de .none, .reg8 .a]⟩
  | .inc_DE => ⟨.inc, "INC", false, [.reg16 .de]⟩
  | .inc_D => ⟨.inc, "INC", false, [.reg8 .d]⟩
  | .dec_D => ⟨.dec, "DEC", false, [.reg8 .d]⟩
  | .ld_D_d8 n => ⟨.load8, "LD", false, [.reg8 .d, .imm8 n]⟩
  | .rla => ⟨.rotateLeft, "RLA", false, []⟩
  | .jr_e8 n => ⟨.jump, "JR", false, [.disp n]⟩
  | .add_HL_DE => ⟨.add, "ADD", false, [.reg16 .hl, .reg16 .de]⟩
  | .ld_A_atDE => ⟨.load8, "LD", false, [.reg8 .a, .indirect .de .none]⟩
  | .dec_DE => ⟨.dec, "DEC", false, [.reg16 .de]⟩
  | .inc_E => ⟨.inc, "INC", false, [.reg8 .e]⟩
  | .dec_E => ⟨.dec, "DEC", false, [.reg8 .e]⟩
  | .ld_E_d8 n => ⟨.load8, "LD", false, [.reg8 .e, .imm8 n]⟩
  | .jr_NZ_e8 n => ⟨.jump, "JR", false, [.cond .nz, .disp n]⟩
  | .ld_HL_d16 w => ⟨.load16, "LD", false, [.reg16 .hl, .imm16 w]⟩
  | .ld_atHLinc_A => ⟨.load8, "LD", false, [.indirect .hl .inc, .reg8 .a]⟩
  | .inc_HL => ⟨.inc, "INC", false, [.reg16 .hl]⟩
  | .inc_H => ⟨.inc, "INC", false, [.reg8 .h]⟩
  | .dec_H => ⟨.dec, "DEC", false, [.reg8 .h]⟩
  | .ld_H_d8 n => ⟨.load8, "LD", false, [.reg8 .h, .imm8 n]⟩
  | .jr_Z_e8 n => ⟨.jump, "JR", false, [.cond .z, .disp n]⟩
  | .add_HL_HL => ⟨.add, "ADD", false, [.reg16 .hl, .reg16 .hl]⟩
  | .ld_A_atHLinc => ⟨.load8, "LD", false, [.reg8 .a, .indirect .hl .inc]⟩
  | .dec_HL => ⟨.dec, "DEC", false, [.reg16 .hl]⟩
  | .inc_L => ⟨.inc, "INC", false, [.reg8 .l]⟩
  | .dec_L => ⟨.dec, "DEC", false, [.reg8 .l]⟩
  | .ld_L_d8 n => ⟨.load8, "LD", false, [.reg8 .l, .imm8 n]⟩
  | .cpl => ⟨.complement, "CPL", false, []⟩
  | .jr_NC_e8 n => ⟨.jump, "JR", false, [.cond .nc, .disp n]⟩
  | .ld_SP_d16 w => ⟨.load16, "LD", false, [.reg16 .sp, .imm16 w]⟩
  | .ld_atHLdec_A => ⟨.load8, "LD", false, [.indirect .hl .dec, .reg8 .a]⟩
  | .inc_SP => ⟨.inc, "INC", false, [.reg16 .sp]⟩
  | .inc_atHL => ⟨.inc, "INC", false, [.indirect .hl .none]⟩
  | .dec_atHL => ⟨.dec, "DEC", false, [.indirect .hl .none]⟩
  | .ld_atHL_d8 n => ⟨.load8, "LD", false, [.indirect .hl .none, .imm8 n]⟩
  | .scf => ⟨.setCarry, "SCF", false, []⟩
  | .jr_C_e8 n => ⟨.jump, "JR", false, [.cond .c, .disp n]⟩
  | .add_HL_SP => ⟨.add, "ADD", false, [.reg16 .hl, .reg16 .sp]⟩
  | .ld_A_atHLdec => ⟨.load8, "LD", false, [.reg8 .a, .indirect .hl .dec]⟩
  | .dec_SP => ⟨.dec, "DEC", false, [.reg16 .sp]⟩
  | .inc_A => ⟨.inc, "INC", false, [.reg8 .a]⟩
  | .dec_A => ⟨.dec, "DEC", false, [.reg8 .a]⟩
  | .ld_A_d8 n => ⟨.load8, "LD", false, [.reg8 .a, .imm8 n]⟩
  | .ld_B_B => ⟨.load8, "LD", false, [.reg8 .b, .reg8 .b]⟩
  | .ld_B_C => ⟨.load8, "LD", false, [.reg8 .b, .reg8 .c]⟩
  | .ld_B_D => ⟨.load8, "LD", false, [.reg8 .b, .reg8 .d]⟩
  | .ld_B_E => ⟨.load8, "LD", false, [.reg8 .b, .reg8 .e]⟩
  | .ld_B_H => ⟨.load8, "LD", false, [.reg8 .b, .reg8 .h]⟩
  | .ld_B_L => ⟨.load8, "LD", false, [.reg8 .b, .reg8 .l]⟩
  | .ld_B_atHL => ⟨.load8, "LD", false, [.reg8 .b, .indirect .hl .none]⟩
  | .ld_B_A => ⟨.load8, "LD", false, [.reg8 .b, .reg8 .a]⟩
  | .ld_C_B => ⟨.load8, "LD", false, [.reg8 .c, .reg8 .b]⟩
  | .ld_C_C => ⟨.load8, "LD", false, [.reg8 .c, .reg8 .c]⟩
  | .ld_C_D => ⟨.load8, "LD", false, [.reg8 .c, .reg8 .d]⟩
  | .ld_C_E => ⟨.load8, "LD", false, [.reg8 .c, .reg8 .e]⟩
  | .ld_C_H => ⟨.load8, "LD", false, [.reg8 .c, .reg8 .h]⟩
  | .ld_C_L => ⟨.load8, "LD", false, [.reg8 .c, .reg8 .l]⟩
  | .ld_C_atHL => ⟨.load8, "LD", false, [.reg8 .c, .indirect .hl .none]⟩
  | .ld_C_A => ⟨.load8, "LD", false, [.reg8 .c, .reg8 .a]⟩
  | .ld_D_B => ⟨.load8, "LD", false, [.reg8 .d, .reg8 .b]⟩
  | .ld_D_C => ⟨.load8, "LD", false, [.reg8 .d, .reg8 .c]⟩
  | .ld_D_D => ⟨.load8, "LD", false, [.reg8 .d, .reg8 .d]⟩
  | .ld_D_E => ⟨.load8, "LD", false, [.reg8 .d, .reg8 .e]⟩
  | .ld_D_H => ⟨.load8, "LD", false, [.reg8 .d, .reg8 .h]⟩
  | .ld_D_L => ⟨.load8, "LD", false, [.reg8 .d, .reg8 .l]⟩
  | .ld_D_atHL => ⟨.load8, "LD", false, [.reg8 .d, .indirect .hl .none]⟩
  | .ld_D_A => ⟨.load8, "LD", false, [.reg8 .d, .reg8 .a]⟩
  | .ld_E_B => ⟨.load8, "LD", false, [.reg8 .e, .reg8 .b]⟩
  | .ld_E_C => ⟨.load8, "LD", false, [.reg8 .e, .reg8 .c]⟩
  | .ld_E_D => ⟨.load8, "LD", false, [.reg8 .e, .reg8 .d]⟩
  | .ld_E_E => ⟨.load8, "LD", false, [.reg8 .e, .reg8 .e]⟩
  | .ld_E_H => ⟨.load8, "LD", false, [.reg8 .e, .reg8 .h]⟩
  | .ld_E_L => ⟨.load8, "LD", false, [.reg8 .e, .reg8 .l]⟩
  | .ld_E_atHL => ⟨.load8, "LD", false, [.reg8 .e, .indirect .hl .none]⟩
  | .ld_E_A => ⟨.load8, "LD", false, [.reg8 .e, .reg8 .a]⟩
  | .ld_H_B => ⟨.load8, "LD", false, [.reg8 .h, .reg8 .b]⟩
  | .ld_H_C => ⟨.load8, "LD", false, [.reg8 .h, .reg8 .c]⟩
  | .ld_H_D => ⟨.load8, "LD", false, [.reg8 .h, .reg8 .d]⟩
  | .ld_H_E => ⟨.load8, "LD", false, [.reg8 .h, .reg8 .e]⟩
  | .ld_H_H => ⟨.load8, "LD", false, [.reg8 .h, .reg8 .h]⟩
  | .ld_H_L => ⟨.load8, "LD", false, [.reg8 .h, .reg8 .l]⟩
  | .ld_H_atHL => ⟨.load8, "LD", false, [.reg8 .h, .indirect .hl .none]⟩
  | .ld_H_A => ⟨.load8, "LD", false, [.reg8 .h, .reg8 .a]⟩
  | .ld_L_B => ⟨.load8, "LD", false, [.reg8 .l, .reg8 .b]⟩
  | .ld_L_C => ⟨.load8, "LD", false, [.reg8 .l, .reg8 .c]⟩
  | .ld_L_D => ⟨.load8, "LD", false, [.reg8 .l, .reg8 .d]⟩
  | .ld_L_E => ⟨.load8, "LD", false, [.reg8 .l, .reg8 .e]⟩
  | .ld_L_H => ⟨.load8, "LD", false, [.reg8 .l, .reg8 .h]⟩
  | .ld_L_L => ⟨.load8, "LD", false, [.reg8 .l, .reg8 .l]⟩
  | .ld_L_atHL => ⟨.load8, "LD", false, [.reg8 .l, .indirect .hl .none]⟩
  | .ld_L_A => ⟨.load8, "LD", false, [.reg8 .l, .reg8 .a]⟩
  | .ld_atHL_B => ⟨.load8, "LD", false, [.indirect .hl .none, .reg8 .b]⟩
  | .ld_atHL_C => ⟨.load8, "LD", false, [.indirect .hl .none, .reg8 .c]⟩
  | .ld_atHL_D => ⟨.load8, "LD", false, [.indirect .hl .none, .reg8 .d]⟩
  | .ld_atHL_E => ⟨.load8, "LD", false, [.indirect .hl .none, .reg8 .e]⟩
  | .ld_atHL_H => ⟨.load8, "LD", false, [.indirect .hl .none, .reg8 .h]⟩
  | .ld_atHL_L => ⟨.load8, "LD", false, [.indirect .hl .none, .reg8 .l]⟩
  | .ld_atHL_A => ⟨.load8, "LD", false, [.indirect .hl .none, .reg8 .a]⟩
  | .ld_A_B => ⟨.load8, "LD", false, [.reg8 .a, .reg8 .b]⟩
  | .ld_A_C => ⟨.load8, "LD", false, [.reg8 .a, .reg8 .c]⟩
  | .ld_A_D => ⟨.load8, "LD", false, [.reg8 .a, .reg8 .d]⟩
  | .ld_A_E => ⟨.load8, "LD", false, [.reg8 .a, .reg8 .e]⟩
  | .ld_A_H => ⟨.load8, "LD", false, [.reg8 .a, .reg8 .h]⟩
  | .ld_A_L => ⟨.load8, "LD", false, [.reg8 .a, .reg8 .l]⟩
  | .ld_A_atHL => ⟨.load8, "LD", false, [.reg8 .a, .indirect .hl .none]⟩
  | .ld_A_A => ⟨.load8, "LD", false, [.reg8 .a, .reg8 .a]⟩
  | .add_A_B => ⟨.add, "ADD", false, [.reg8 .a, .reg8 .b]⟩
  | .add_A_C => ⟨.add, "ADD", false, [.reg8 .a, .reg8 .c]⟩
  | .add_A_D => ⟨.add, "ADD", false, [.reg8 .a, .reg8 .d]⟩
  | .add_A_E => ⟨.add, "ADD", false, [.reg8 .a, .reg8 .e]⟩
  | .add_A_H => ⟨.add, "ADD", false, [.reg8 .a, .reg8 .h]⟩
  | .add_A_L => ⟨.add, "ADD", false, [.reg8 .a, .reg8 .l]⟩
  | .add_A_atHL => ⟨.add, "ADD", false, [.reg8 .a, .indirect .hl .none]⟩
  | .add_A_A => ⟨.add, "ADD", false, [.reg8 .a, .reg8 .a]⟩
  | .adc_A_B => ⟨.adc, "ADC", false, [.reg8 .a, .reg8 .b]⟩
  | .adc_A_C => ⟨.adc, "ADC", false, [.reg8 .a, .reg8 .c]⟩
  | .adc_A_D => ⟨.adc, "ADC", false, [.reg8 .a, .reg8 .d]⟩
  | .adc_A_E => ⟨.adc, "ADC", false, [.reg8 .a, .reg8 .e]⟩
  | .adc_A_H => ⟨.adc, "ADC", false, [.reg8 .a, .reg8 .h]⟩
  | .adc_A_L => ⟨.adc, "ADC", false, [.reg8 .a, .reg8 .l]⟩
  | .adc_A_atHL => ⟨.adc, "ADC", false, [.reg8 .a, .indirect .hl .none]⟩
  | .adc_A_A => ⟨.adc, "ADC", false, [.reg8 .a, .reg8 .a]⟩
  | .sub_B => ⟨.sub, "SUB", false, [.reg8 .b]⟩
  | .sub_C => ⟨.sub, "SUB", false, [.reg8 .c]⟩
  | .sub_D => ⟨.sub, "SUB", false, [.reg8 .d]⟩
  | .sub_E => ⟨.sub, "SUB", false, [.reg8 .e]⟩
  | .sub_H => ⟨.sub, "SUB", false, [.reg8 .h]⟩
  | .sub_L => ⟨.sub, "SUB", false, [.reg8 .l]⟩
  | .sub_atHL => ⟨.sub, "SUB", false, [.indirect .hl .none]⟩
  | .sub_A => ⟨.sub, "SUB", false, [.reg8 .a]⟩
  | .and_B => ⟨.and, "AND", false, [.reg8 .b]⟩
  | .and_C => ⟨.and, "AND", false, [.reg8 .c]⟩
  | .and_D => ⟨.and, "AND", false, [.reg8 .d]⟩
  | .and_E => ⟨.and, "AND", false, [.reg8 .e]⟩
  | .and_H => ⟨.and, "AND", false, [.reg8 .h]⟩
  | .and_L => ⟨.and, "AND", false, [.reg8 .l]⟩
  | .and_atHL => ⟨.and, "AND", false, [.indirect .hl .none]⟩
  | .and_A => ⟨.and, "AND", false, [.reg8 .a]⟩
  | .xor_B => ⟨.xor, "XOR", false, [.reg8 .b]⟩
  | .xor_C => ⟨.xor, "XOR", false, [.reg8 .c]⟩
  | .xor_D => ⟨.xor, "XOR", false, [.reg8 .d]⟩
  | .xor_E => ⟨.xor, "XOR", false, [.reg8 .e]⟩
  | .xor_H => ⟨.xor, "XOR", false, [.reg8 .h]⟩
  | .xor_L => ⟨.xor, "XOR", false, [.reg8 .l]⟩
  | .xor_atHL => ⟨.xor, "XOR", false, [.indirect .hl .none]⟩
  | .xor_A => ⟨.xor, "XOR", false, [.reg8 .a]⟩
  | .or_B => ⟨.or, "OR", false, [.reg8 .b]⟩
  | .or_C => ⟨.or, "OR", false, [.reg8 .c]⟩
  | .or_D => ⟨.or, "OR", false, [.reg8 .d]⟩
  | .or_E => ⟨.or, "OR", false, [.reg8 .e]⟩
  | .or_H => ⟨.or, "OR", false, [.reg8 .h]⟩
  | .or_L => ⟨.or, "OR", false, [.reg8 .l]⟩
  | .or_atHL => ⟨.or, "OR", false, [.indirect .hl .none]⟩
  | .or_A => ⟨.or, "OR", false, [.reg8 .a]⟩
  | .cp_B => ⟨.cp, "CP", false, [.reg8 .b]⟩
  | .cp_C => ⟨.cp, "CP", false, [.reg8 .c]⟩
  | .cp_D => ⟨.cp, "CP", false, [.reg8 .d]⟩
  | .cp_E => ⟨.cp, "CP", false, [.reg8 .e]⟩
  | .cp_H => ⟨.cp, "CP", false, [.reg8 .h]⟩
  | .cp_L => ⟨.cp, "CP", false, [.reg8 .l]⟩
  | .cp_atHL => ⟨.cp, "CP", false, [.indirect .hl .none]⟩
  | .cp_A => ⟨.cp, "CP", false, [.reg8 .a]⟩
  | .ret_NZ => ⟨.ret, "RET", false, [.cond .nz]⟩
  | .pop_BC => ⟨.pop, "POP", false, [.reg16 .bc]⟩
  | .jp_NZ_a16 w => ⟨.jump, "JP", false, [.cond .nz, .label w]⟩
  | .jp_a16 w => ⟨.jump, "JP", false, [.label w]⟩
  | .call_NZ_a16 w => ⟨.call, "CALL", false, [.cond .nz, .label w]⟩
  | .push_BC => ⟨.push, "PUSH", false, [.reg16 .bc]⟩
  | .add_A_d8 n => ⟨.add, "ADD", false, [.reg8 .a, .imm8 n]⟩
  | .ret_Z => ⟨.ret, "RET", false, [.cond .z]⟩
  | .ret => ⟨.ret, "RET", false, []⟩
  | .jp_Z_a16 w => ⟨.jump, "JP", false, [.cond .z, .label w]⟩
  | .call_Z_a16 w => ⟨.call, "CALL", false, [.cond .z, .label w]⟩
  | .call_a16 w => ⟨.call, "CALL", false, [.label w]⟩
  | .adc_A_d8 n => ⟨.adc, "ADC", false, [.reg8 .a, .imm8 n]⟩
  | .ret_NC => ⟨.ret, "RET", false, [.cond .nc]⟩
  | .pop_DE => ⟨.pop, "POP", false, [.reg16 .de]⟩
  | .jp_NC_a16 w => ⟨.jump, "JP", false, [.cond .nc, .label w]⟩
  | .call_NC_a16 w => ⟨.call, "CALL", false, [.cond .nc, .label w]⟩
  | .push_DE => ⟨.push, "PUSH", false, [.reg16 .de]⟩
  | .sub_d8 n => ⟨.sub, "SUB", false, [.imm8 n]⟩
  | .ret_C => ⟨.ret, "RET", false, [.cond .c]⟩
  | .reti => ⟨.ret, "RETI", false, []⟩
  | .jp_C_a16 w => ⟨.jump, "JP", false, [.cond .c, .label w]⟩
  | .call_C_a16 w => ⟨.call, "CALL", false, [.cond .c, .label w]⟩
  | .ldh_atA8_A n => ⟨.load8, "LDH", false, [.highConst n, .reg8 .a]⟩
  | .pop_HL => ⟨.pop, "POP", false, [.reg16 .hl]⟩
  | .ld_atC_A => ⟨.load8, "LD", false, [.highReg, .reg8 .a]⟩
  | .push_HL => ⟨.push, "PUSH", false, [.reg16 .hl]⟩
  | .and_d8 n => ⟨.and, "AND", false, [.imm8 n]⟩
  | .add_SP_e8 n => ⟨.stackOffset, "ADD", false, [.reg16 .sp, .disp n]⟩
  | .jp_atHL => ⟨.jump, "JP", false, [.indirect .hl .none]⟩
  | .ld_atA16_A w => ⟨.load8, "LD", false, [.atLabel w, .reg8 .a]⟩
  | .xor_d8 n => ⟨.xor, "XOR", false, [.imm8 n]⟩
  | .ldh_A_atA8 n => ⟨.load8, "LDH", false, [.reg8 .a, .highConst n]⟩
  | .pop_AF => ⟨.pop, "POP", false, [.reg16 .af]⟩
  | .ld_A_atC => ⟨.load8, "LD", false, [.reg8 .a, .highReg]⟩
  | .di => ⟨.interruptSwitch, "DI", false, []⟩
  | .push_AF => ⟨.push, "PUSH", false, [.reg16 .af]⟩
  | .or_d8 n => ⟨.or, "OR", false, [.imm8 n]⟩
  | .ld_HL_SPe8 n => ⟨.load16, "LD", false, [.reg16 .hl, .spDisp n]⟩
  | .ld_SP_HL => ⟨.load16, "LD", false, [.reg16 .sp, .reg16 .hl]⟩
  | .ld_A_atA16 w => ⟨.load8, "LD", false, [.reg8 .a, .atLabel w]⟩
  | .ei => ⟨.interruptSwitch, "EI", false, []⟩
  | .cp_d8 n => ⟨.cp, "CP", false, [.imm8 n]⟩
  | .rl_B => ⟨.rotateLeft, "RL", true, [.reg8 .b]⟩
  | .rl_C => ⟨.rotateLeft, "RL", true, [.reg8 .c]⟩
  | .rl_D => ⟨.rotateLeft, "RL", true, [.reg8 .d]⟩
  | .rl_E => ⟨.rotateLeft, "RL", true, [.reg8 .e]⟩
  | .rl_H => ⟨.rotateLeft, "RL", true, [.reg8 .h]⟩
  | .rl_L => ⟨.rotateLeft, "RL", true, [.reg8 .l]⟩
  | .rl_A => ⟨.rotateLeft, "RL", true, [.reg8 .a]⟩
  | .swap_B => ⟨.swapNibbles, "SWAP", true, [.reg8 .b]⟩
  | .swap_C => ⟨.swapNibbles, "SWAP", true, [.reg8 .c]⟩
  | .swap_D => ⟨.swapNibbles, "SWAP", true, [.reg8 .d]⟩
  | .swap_E => ⟨.swapNibbles, "SWAP", true, [.reg8 .e]⟩
  | .swap_H => ⟨.swapNibbles, "SWAP", true, [.reg8 .h]⟩
  | .swap_L => ⟨.swapNibbles, "SWAP", true, [.reg8 .l]⟩
  | .swap_atHL => ⟨.swapNibbles, "SWAP", true, [.indirect .hl .none]⟩
  | .swap_A => ⟨.swapNibbles, "SWAP", true, [.reg8 .a]⟩
  | .bit_0_B => ⟨.bitTest, "BIT", true, [.bit 0, .reg8 .b]⟩
  | .bit_0_C => ⟨.bitTest, "BIT", true, [.bit 0, .reg8 .c]⟩
  | .bit_0_D => ⟨.bitTest, "BIT", true, [.bit 0, .reg8 .d]⟩
  | .bit_0_E => ⟨.bitTest, "BIT", true, [.bit 0, .reg8 .e]⟩
  | .bit_0_H => ⟨.bitTest, "BIT", true, [.bit 0, .reg8 .h]⟩
  | .bit_0_L => ⟨.bitTest, "BIT", true, [.bit 0, .reg8 .l]⟩
  | .bit_0_atHL => ⟨.bitTest, "BIT", true, [.bit 0, .indirect .hl .none]⟩
  | .bit_0_A => ⟨.bitTest, "BIT", true, [.bit 0, .reg8 .a]⟩
  | .bit_1_B => ⟨.bitTest, "BIT", true, [.bit 1, .reg8 .b]⟩
  | .bit_1_C => ⟨.bitTest, "BIT", true, [.bit 1, .reg8 .c]⟩
  | .bit_1_D => ⟨.bitTest, "BIT", true, [.bit 1, .reg8 .d]⟩
  | .bit_1_E => ⟨.bitTest, "BIT", true, [.bit 1, .reg8 .e]⟩
  | .bit_1_H => ⟨.bitTest, "BIT", true, [.bit 1, .reg8 .h]⟩
  | .bit_1_L => ⟨.bitTest, "BIT", true, [.bit 1, .reg8 .l]⟩
  | .bit_1_atHL => ⟨.bitTest, "BIT", true, [.bit 1, .indirect .hl .none]⟩
  | .bit_1_A => ⟨.bitTest, "BIT", true, [.bit 1, .reg8 .a]⟩
  | .bit_2_B => ⟨.bitTest, "BIT", true, [.bit 2, .reg8 .b]⟩
  | .bit_2_C => ⟨.bitTest, "BIT", true, [.bit 2, .reg8 .c]⟩
  | .bit_2_D => ⟨.bitTest, "BIT", true, [.bit 2, .reg8 .d]⟩
  | .bit_2_E => ⟨.bitTest, "BIT", true, [.bit 2, .reg8 .e]⟩
  | .bit_2_H => ⟨.bitTest, "BIT", true, [.bit 2, .reg8 .h]⟩
  | .bit_2_L => ⟨.bitTest, "BIT", true, [.bit 2, .reg8 .l]⟩
  | .bit_2_atHL => ⟨.bitTest, "BIT", true, [.bit 2, .indirect .hl .none]⟩
  | .bit_2_A => ⟨.bitTest, "BIT", true, [.bit 2, .reg8 .a]⟩
  | .bit_3_B => ⟨.bitTest, "BIT", true, [.bit 3, .reg8 .b]⟩
  | .bit_3_C => ⟨.bitTest, "BIT", true, [.bit 3, .reg8 .c]⟩
  | .bit_3_D => ⟨.bitTest, "BIT", true, [.bit 3, .reg8 .d]⟩
  | .bit_3_E => ⟨.bitTest, "BIT", true, [.bit 3, .reg8 .e]⟩
  | .bit_3_H => ⟨.bitTest, "BIT", true, [.bit 3, .reg8 .h]⟩
  | .bit_3_L => ⟨.bitTest, "BIT", true, [.bit 3, .reg8 .l]⟩
  | .bit_3_atHL => ⟨.bitTest, "BIT", true, [.bit 3, .indirect .hl .none]⟩
  | .bit_3_A => ⟨.bitTest, "BIT", true, [.bit 3, .reg8 .a]⟩
  | .bit_4_B => ⟨.bitTest, "BIT", true, [.bit 4, .reg8 .b]⟩
  | .bit_4_C => ⟨.bitTest, "BIT", true, [.bit 4, .reg8 .c]⟩
  | .bit_4_D => ⟨.bitTest, "BIT", true, [.bit 4, .reg8 .d]⟩
  | .bit_4_E => ⟨.bitTest, "BIT", true, [.bit 4, .reg8 .e]⟩
  | .bit_4_H => ⟨.bitTest, "BIT", true, [.bit 4, .reg8 .h]⟩
  | .bit_4_L => ⟨.bitTest, "BIT", true, [.bit 4, .reg8 .l]⟩
  | .bit_4_atHL => ⟨.bitTest, "BIT", true, [.bit 4, .indirect .hl .none]⟩
  | .bit_4_A => ⟨.bitTest, "BIT", true, [.bit 4, .reg8 .a]⟩
  | .bit_5_B => ⟨.bitTest, "BIT", true, [.bit 5, .reg8 .b]⟩
  | .bit_5_C => ⟨.bitTest, "BIT", true, [.bit 5, .reg8 .c]⟩
  | .bit_5_D => ⟨.bitTest, "BIT", true, [.bit 5, .reg8 .d]⟩
  | .bit_5_E => ⟨.bitTest, "BIT", true, [.bit 5, .reg8 .e]⟩
  | .bit_5_H => ⟨.bitTest, "BIT", true, [.bit 5, .reg8 .h]⟩
  | .bit_5_L => ⟨.bitTest, "BIT", true, [.bit 5, .reg8 .l]⟩
  | .bit_5_atHL => ⟨.bitTest, "BIT", true, [.bit 5, .indirect .hl .none]⟩
  | .bit_5_A => ⟨.bitTest, "BIT", true, [.bit 5, .reg8 .a]⟩
  | .bit_6_B => ⟨.bitTest, "BIT", true, [.bit 6, .reg8 .b]⟩
  | .bit_6_C => ⟨.bitTest, "BIT", true, [.bit 6, .reg8 .c]⟩
  | .bit_6_D => ⟨.bitTest, "BIT", true, [.bit 6, .reg8 .d]⟩
  | .bit_6_E => ⟨.bitTest, "BIT", true, [.bit 6, .reg8 .e]⟩
  | .bit_6_H => ⟨.bitTest, "BIT", true, [.bit 6, .reg8 .h]⟩
  | .bit_6_L => ⟨.bitTest, "BIT", true, [.bit 6, .reg8 .l]⟩
  | .bit_6_atHL => ⟨.bitTest, "BIT", true, [.bit 6, .indirect .hl .none]⟩
  | .bit_6_A => ⟨.bitTest, "BIT", true, [.bit 6, .reg8 .a]⟩
  | .bit_7_B => ⟨.bitTest, "BIT", true, [.bit 7, .reg8 .b]⟩
  | .bit_7_C => ⟨.bitTest, "BIT", true, [.bit 7, .reg8 .c]⟩
  | .bit_7_D => ⟨.bitTest, "BIT", true, [.bit 7, .reg8 .d]⟩
  | .bit_7_E => ⟨.bitTest, "BIT", true, [.bit 7, .reg8 .e]⟩
  | .bit_7_H => ⟨.bitTest, "BIT", true, [.bit 7, .reg8 .h]⟩
  | .bit_7_L => ⟨.bitTest, "BIT", true, [.bit 7, .reg8 .l]⟩
  | .bit_7_atHL => ⟨.bitTest, "BIT", true, [.bit 7, .indirect .hl .none]⟩
  | .bit_7_A => ⟨.bitTest, "BIT", true, [.bit 7, .reg8 .a]⟩

/-- The byte length of an instruction (30_encoding.md R84). -/
def Instr.size (i : Instr) : Nat := i.shape.size

end Sys2Proof
end

