-- ==== Sys2Proof/Decode.lean ====
section
/-! DEFINITION. Decoding, total on any bytes and rejecting by name, and the encoder (30_encoding.md R80 to R93).

The decoder reads an instruction from its first byte and the bytes that follow it below address 0x10000 (R85); where those bytes end, so
does the address space (R86). The tables are R90 and R91, row by row, a `none` for each `·`. -/

namespace Sys2Proof

/-- What decoding answers: an instruction, or the kind of DecodeError with the byte it reports (30_encoding.md R85, R88). -/
inductive DecodeResult
  | ok (i : Instr)
  | unknownOpcode (byte : Byte)
  | unknownPrefixedOpcode (byte : Byte)
  | outOfRange (byte : Byte)
deriving DecidableEq, Repr

/-- An entry of the unprefixed table: the instruction, and the operand bytes that follow the opcode (30_encoding.md R81). -/
inductive Row
  | op (i : Instr)
  | n8 (mk : Byte → Instr)
  | n16 (mk : Word → Instr)

/-- Row 0x of 30_encoding.md R90. -/
def row0x : List (Option Row) :=
  [some (.op .nop), some (.n16 .ld_BC_d16), some (.op .ld_atBC_A), some (.op .inc_BC),
   some (.op .inc_B), some (.op .dec_B), some (.n8 .ld_B_d8), none,
   some (.n16 .ld_atA16_SP), some (.op .add_HL_BC), some (.op .ld_A_atBC), some (.op .dec_BC),
   some (.op .inc_C), some (.op .dec_C), some (.n8 .ld_C_d8), none]

/-- Row 1x of 30_encoding.md R90. -/
def row1x : List (Option Row) :=
  [none, some (.n16 .ld_DE_d16), some (.op .ld_atDE_A), some (.op .inc_DE),
   some (.op .inc_D), some (.op .dec_D), some (.n8 .ld_D_d8), some (.op .rla),
   some (.n8 .jr_e8), some (.op .add_HL_DE), some (.op .ld_A_atDE), some (.op .dec_DE),
   some (.op .inc_E), some (.op .dec_E), some (.n8 .ld_E_d8), none]

/-- Row 2x of 30_encoding.md R90. -/
def row2x : List (Option Row) :=
  [some (.n8 .jr_NZ_e8), some (.n16 .ld_HL_d16), some (.op .ld_atHLinc_A), some (.op .inc_HL),
   some (.op .inc_H), some (.op .dec_H), some (.n8 .ld_H_d8), none,
   some (.n8 .jr_Z_e8), some (.op .add_HL_HL), some (.op .ld_A_atHLinc), some (.op .dec_HL),
   some (.op .inc_L), some (.op .dec_L), some (.n8 .ld_L_d8), some (.op .cpl)]

/-- Row 3x of 30_encoding.md R90. -/
def row3x : List (Option Row) :=
  [some (.n8 .jr_NC_e8), some (.n16 .ld_SP_d16), some (.op .ld_atHLdec_A), some (.op .inc_SP),
   some (.op .inc_atHL), some (.op .dec_atHL), some (.n8 .ld_atHL_d8), some (.op .scf),
   some (.n8 .jr_C_e8), some (.op .add_HL_SP), some (.op .ld_A_atHLdec), some (.op .dec_SP),
   some (.op .inc_A), some (.op .dec_A), some (.n8 .ld_A_d8), none]

/-- Row 4x of 30_encoding.md R90. -/
def row4x : List (Option Row) :=
  [some (.op .ld_B_B), some (.op .ld_B_C), some (.op .ld_B_D), some (.op .ld_B_E),
   some (.op .ld_B_H), some (.op .ld_B_L), some (.op .ld_B_atHL), some (.op .ld_B_A),
   some (.op .ld_C_B), some (.op .ld_C_C), some (.op .ld_C_D), some (.op .ld_C_E),
   some (.op .ld_C_H), some (.op .ld_C_L), some (.op .ld_C_atHL), some (.op .ld_C_A)]

/-- Row 5x of 30_encoding.md R90. -/
def row5x : List (Option Row) :=
  [some (.op .ld_D_B), some (.op .ld_D_C), some (.op .ld_D_D), some (.op .ld_D_E),
   some (.op .ld_D_H), some (.op .ld_D_L), some (.op .ld_D_atHL), some (.op .ld_D_A),
   some (.op .ld_E_B), some (.op .ld_E_C), some (.op .ld_E_D), some (.op .ld_E_E),
   some (.op .ld_E_H), some (.op .ld_E_L), some (.op .ld_E_atHL), some (.op .ld_E_A)]

/-- Row 6x of 30_encoding.md R90. -/
def row6x : List (Option Row) :=
  [some (.op .ld_H_B), some (.op .ld_H_C), some (.op .ld_H_D), some (.op .ld_H_E),
   some (.op .ld_H_H), some (.op .ld_H_L), some (.op .ld_H_atHL), some (.op .ld_H_A),
   some (.op .ld_L_B), some (.op .ld_L_C), some (.op .ld_L_D), some (.op .ld_L_E),
   some (.op .ld_L_H), some (.op .ld_L_L), some (.op .ld_L_atHL), some (.op .ld_L_A)]

/-- Row 7x of 30_encoding.md R90. -/
def row7x : List (Option Row) :=
  [some (.op .ld_atHL_B), some (.op .ld_atHL_C), some (.op .ld_atHL_D), some (.op .ld_atHL_E),
   some (.op .ld_atHL_H), some (.op .ld_atHL_L), none, some (.op .ld_atHL_A),
   some (.op .ld_A_B), some (.op .ld_A_C), some (.op .ld_A_D), some (.op .ld_A_E),
   some (.op .ld_A_H), some (.op .ld_A_L), some (.op .ld_A_atHL), some (.op .ld_A_A)]

/-- Row 8x of 30_encoding.md R90. -/
def row8x : List (Option Row) :=
  [some (.op .add_A_B), some (.op .add_A_C), some (.op .add_A_D), some (.op .add_A_E),
   some (.op .add_A_H), some (.op .add_A_L), some (.op .add_A_atHL), some (.op .add_A_A),
   some (.op .adc_A_B), some (.op .adc_A_C), some (.op .adc_A_D), some (.op .adc_A_E),
   some (.op .adc_A_H), some (.op .adc_A_L), some (.op .adc_A_atHL), some (.op .adc_A_A)]

/-- Row 9x of 30_encoding.md R90. -/
def row9x : List (Option Row) :=
  [some (.op .sub_B), some (.op .sub_C), some (.op .sub_D), some (.op .sub_E),
   some (.op .sub_H), some (.op .sub_L), some (.op .sub_atHL), some (.op .sub_A),
   none, none, none, none,
   none, none, none, none]

/-- Row Ax of 30_encoding.md R90. -/
def rowAx : List (Option Row) :=
  [some (.op .and_B), some (.op .and_C), some (.op .and_D), some (.op .and_E),
   some (.op .and_H), some (.op .and_L), some (.op .and_atHL), some (.op .and_A),
   some (.op .xor_B), some (.op .xor_C), some (.op .xor_D), some (.op .xor_E),
   some (.op .xor_H), some (.op .xor_L), some (.op .xor_atHL), some (.op .xor_A)]

/-- Row Bx of 30_encoding.md R90. -/
def rowBx : List (Option Row) :=
  [some (.op .or_B), some (.op .or_C), some (.op .or_D), some (.op .or_E),
   some (.op .or_H), some (.op .or_L), some (.op .or_atHL), some (.op .or_A),
   some (.op .cp_B), some (.op .cp_C), some (.op .cp_D), some (.op .cp_E),
   some (.op .cp_H), some (.op .cp_L), some (.op .cp_atHL), some (.op .cp_A)]

/-- Row Cx of 30_encoding.md R90. -/
def rowCx : List (Option Row) :=
  [some (.op .ret_NZ), some (.op .pop_BC), some (.n16 .jp_NZ_a16), some (.n16 .jp_a16),
   some (.n16 .call_NZ_a16), some (.op .push_BC), some (.n8 .add_A_d8), none,
   some (.op .ret_Z), some (.op .ret), some (.n16 .jp_Z_a16), none,
   some (.n16 .call_Z_a16), some (.n16 .call_a16), some (.n8 .adc_A_d8), none]

/-- Row Dx of 30_encoding.md R90. -/
def rowDx : List (Option Row) :=
  [some (.op .ret_NC), some (.op .pop_DE), some (.n16 .jp_NC_a16), none,
   some (.n16 .call_NC_a16), some (.op .push_DE), some (.n8 .sub_d8), none,
   some (.op .ret_C), some (.op .reti), some (.n16 .jp_C_a16), none,
   some (.n16 .call_C_a16), none, none, none]

/-- Row Ex of 30_encoding.md R90. -/
def rowEx : List (Option Row) :=
  [some (.n8 .ldh_atA8_A), some (.op .pop_HL), some (.op .ld_atC_A), none,
   none, some (.op .push_HL), some (.n8 .and_d8), none,
   some (.n8 .add_SP_e8), some (.op .jp_atHL), some (.n16 .ld_atA16_A), none,
   none, none, some (.n8 .xor_d8), none]

/-- Row Fx of 30_encoding.md R90. -/
def rowFx : List (Option Row) :=
  [some (.n8 .ldh_A_atA8), some (.op .pop_AF), some (.op .ld_A_atC), some (.op .di),
   none, some (.op .push_AF), some (.n8 .or_d8), none,
   some (.n8 .ld_HL_SPe8), some (.op .ld_SP_HL), some (.n16 .ld_A_atA16), some (.op .ei),
   none, none, some (.n8 .cp_d8), none]

/-- The unprefixed table (30_encoding.md R90). 0xCB is the prefix, no entry. -/
def unprefixedTable : List (List (Option Row)) :=
  [row0x, row1x, row2x, row3x, row4x, row5x, row6x, row7x,
   row8x, row9x, rowAx, rowBx, rowCx, rowDx, rowEx, rowFx]

/-- Row 0x of 30_encoding.md R91: no entry. -/
def prefixedRow0x : List (Option Instr) := []

/-- Row 1x of 30_encoding.md R91. -/
def prefixedRow1x : List (Option Instr) :=
  [some .rl_B, some .rl_C, some .rl_D, some .rl_E, some .rl_H, some .rl_L, none, some .rl_A,
   none, none, none, none, none, none, none, none]

/-- Row 2x of 30_encoding.md R91: no entry. -/
def prefixedRow2x : List (Option Instr) := []

/-- Row 3x of 30_encoding.md R91. -/
def prefixedRow3x : List (Option Instr) :=
  [some .swap_B, some .swap_C, some .swap_D, some .swap_E, some .swap_H, some .swap_L, some .swap_atHL, some .swap_A,
   none, none, none, none, none, none, none, none]

/-- Row 4x of 30_encoding.md R91. -/
def prefixedRow4x : List (Option Instr) :=
  [some .bit_0_B, some .bit_0_C, some .bit_0_D, some .bit_0_E, some .bit_0_H, some .bit_0_L, some .bit_0_atHL, some .bit_0_A,
   some .bit_1_B, some .bit_1_C, some .bit_1_D, some .bit_1_E, some .bit_1_H, some .bit_1_L, some .bit_1_atHL, some .bit_1_A]

/-- Row 5x of 30_encoding.md R91. -/
def prefixedRow5x : List (Option Instr) :=
  [some .bit_2_B, some .bit_2_C, some .bit_2_D, some .bit_2_E, some .bit_2_H, some .bit_2_L, some .bit_2_atHL, some .bit_2_A,
   some .bit_3_B, some .bit_3_C, some .bit_3_D, some .bit_3_E, some .bit_3_H, some .bit_3_L, some .bit_3_atHL, some .bit_3_A]

/-- Row 6x of 30_encoding.md R91. -/
def prefixedRow6x : List (Option Instr) :=
  [some .bit_4_B, some .bit_4_C, some .bit_4_D, some .bit_4_E, some .bit_4_H, some .bit_4_L, some .bit_4_atHL, some .bit_4_A,
   some .bit_5_B, some .bit_5_C, some .bit_5_D, some .bit_5_E, some .bit_5_H, some .bit_5_L, some .bit_5_atHL, some .bit_5_A]

/-- Row 7x of 30_encoding.md R91. -/
def prefixedRow7x : List (Option Instr) :=
  [some .bit_6_B, some .bit_6_C, some .bit_6_D, some .bit_6_E, some .bit_6_H, some .bit_6_L, some .bit_6_atHL, some .bit_6_A,
   some .bit_7_B, some .bit_7_C, some .bit_7_D, some .bit_7_E, some .bit_7_H, some .bit_7_L, some .bit_7_atHL, some .bit_7_A]

/-- The prefixed table (30_encoding.md R91). Rows 8x to Fx have no entry. -/
def prefixedTable : List (List (Option Instr)) :=
  [prefixedRow0x, prefixedRow1x, prefixedRow2x, prefixedRow3x, prefixedRow4x, prefixedRow5x, prefixedRow6x, prefixedRow7x]

/-- The entry of a table at a byte: high nibble the row, low nibble the column. -/
def lookupTable {α : Type} (t : List (List (Option α))) (op : Byte) : Option α :=
  ((t.getD (op.toNat / 16) []).getD (op.toNat % 16) none)

/-- The prefix byte (30_encoding.md R89). -/
def prefixByte : Byte := 0xCB

/-- Decode an instruction from its first byte and the bytes after it, which end where the address space ends (30_encoding.md R85). -/
def decodeBytes (op : Byte) (rest : List Byte) : DecodeResult :=
  if op = prefixByte then
    match rest with
    | [] => .outOfRange op
    | op2 :: _ =>
      match lookupTable prefixedTable op2 with
      | some i => .ok i
      | none => .unknownPrefixedOpcode op2
  else
    match lookupTable unprefixedTable op with
    | none => .unknownOpcode op
    | some (.op i) => .ok i
    | some (.n8 mk) =>
      match rest with
      | n :: _ => .ok (mk n)
      | [] => .outOfRange op
    | some (.n16 mk) =>
      match rest with
      | l :: h :: _ => .ok (mk (join h l))
      | _ => .outOfRange op

/-- The bytes of an instruction whose bits are `w`, numbered as spec/opcode_table.json numbers them, every bit above `nbits` zero, laid
out as memory holds them. The table writes an unprefixed row's opcode in bits 7..0, and a row of format `cb` as one 16-bit number with
the prefix in bits 15..8 ("0xCB10"): there the prefix is the first byte (log entry 9). -/
def tableWordBytes (nbits w : Nat) : List Byte :=
  let v := w % 2 ^ nbits
  if nbits = 16 ∧ v / 256 = 0xCB then [prefixByte, BitVec.ofNat 8 v, 0]
  else [BitVec.ofNat 8 v, BitVec.ofNat 8 (v / 256), BitVec.ofNat 8 (v / 65536)]

/-- The instruction the decoder reads from an instruction of the opcode table. -/
def decodeTableWord (nbits w : Nat) : Option Instr :=
  match tableWordBytes nbits w with
  | op :: rest =>
    match decodeBytes op rest with
    | .ok i => some i
    | _ => none
  | [] => none

/-- The bytes of an instruction, the first at the lowest address (30_encoding.md R81, R90, R91). -/
def encode (i : Instr) : List Byte :=
  match i with
  | .nop => [0x00]
  | .ld_BC_d16 w => [0x01, lo w, hi w]
  | .ld_atBC_A => [0x02]
  | .inc_BC => [0x03]
  | .inc_B => [0x04]
  | .dec_B => [0x05]
  | .ld_B_d8 n => [0x06, n]
  | .ld_atA16_SP w => [0x08, lo w, hi w]
  | .add_HL_BC => [0x09]
  | .ld_A_atBC => [0x0A]
  | .dec_BC => [0x0B]
  | .inc_C => [0x0C]
  | .dec_C => [0x0D]
  | .ld_C_d8 n => [0x0E, n]
  | .ld_DE_d16 w => [0x11, lo w, hi w]
  | .ld_atDE_A => [0x12]
  | .inc_DE => [0x13]
  | .inc_D => [0x14]
  | .dec_D => [0x15]
  | .ld_D_d8 n => [0x16, n]
  | .rla => [0x17]
  | .jr_e8 n => [0x18, n]
  | .add_HL_DE => [0x19]
  | .ld_A_atDE => [0x1A]
  | .dec_DE => [0x1B]
  | .inc_E => [0x1C]
  | .dec_E => [0x1D]
  | .ld_E_d8 n => [0x1E, n]
  | .jr_NZ_e8 n => [0x20, n]
  | .ld_HL_d16 w => [0x21, lo w, hi w]
  | .ld_atHLinc_A => [0x22]
  | .inc_HL => [0x23]
  | .inc_H => [0x24]
  | .dec_H => [0x25]
  | .ld_H_d8 n => [0x26, n]
  | .jr_Z_e8 n => [0x28, n]
  | .add_HL_HL => [0x29]
  | .ld_A_atHLinc => [0x2A]
  | .dec_HL => [0x2B]
  | .inc_L => [0x2C]
  | .dec_L => [0x2D]
  | .ld_L_d8 n => [0x2E, n]
  | .cpl => [0x2F]
  | .jr_NC_e8 n => [0x30, n]
  | .ld_SP_d16 w => [0x31, lo w, hi w]
  | .ld_atHLdec_A => [0x32]
  | .inc_SP => [0x33]
  | .inc_atHL => [0x34]
  | .dec_atHL => [0x35]
  | .ld_atHL_d8 n => [0x36, n]
  | .scf => [0x37]
  | .jr_C_e8 n => [0x38, n]
  | .add_HL_SP => [0x39]
  | .ld_A_atHLdec => [0x3A]
  | .dec_SP => [0x3B]
  | .inc_A => [0x3C]
  | .dec_A => [0x3D]
  | .ld_A_d8 n => [0x3E, n]
  | .ld_B_B => [0x40]
  | .ld_B_C => [0x41]
  | .ld_B_D => [0x42]
  | .ld_B_E => [0x43]
  | .ld_B_H => [0x44]
  | .ld_B_L => [0x45]
  | .ld_B_atHL => [0x46]
  | .ld_B_A => [0x47]
  | .ld_C_B => [0x48]
  | .ld_C_C => [0x49]
  | .ld_C_D => [0x4A]
  | .ld_C_E => [0x4B]
  | .ld_C_H => [0x4C]
  | .ld_C_L => [0x4D]
  | .ld_C_atHL => [0x4E]
  | .ld_C_A => [0x4F]
  | .ld_D_B => [0x50]
  | .ld_D_C => [0x51]
  | .ld_D_D => [0x52]
  | .ld_D_E => [0x53]
  | .ld_D_H => [0x54]
  | .ld_D_L => [0x55]
  | .ld_D_atHL => [0x56]
  | .ld_D_A => [0x57]
  | .ld_E_B => [0x58]
  | .ld_E_C => [0x59]
  | .ld_E_D => [0x5A]
  | .ld_E_E => [0x5B]
  | .ld_E_H => [0x5C]
  | .ld_E_L => [0x5D]
  | .ld_E_atHL => [0x5E]
  | .ld_E_A => [0x5F]
  | .ld_H_B => [0x60]
  | .ld_H_C => [0x61]
  | .ld_H_D => [0x62]
  | .ld_H_E => [0x63]
  | .ld_H_H => [0x64]
  | .ld_H_L => [0x65]
  | .ld_H_atHL => [0x66]
  | .ld_H_A => [0x67]
  | .ld_L_B => [0x68]
  | .ld_L_C => [0x69]
  | .ld_L_D => [0x6A]
  | .ld_L_E => [0x6B]
  | .ld_L_H => [0x6C]
  | .ld_L_L => [0x6D]
  | .ld_L_atHL => [0x6E]
  | .ld_L_A => [0x6F]
  | .ld_atHL_B => [0x70]
  | .ld_atHL_C => [0x71]
  | .ld_atHL_D => [0x72]
  | .ld_atHL_E => [0x73]
  | .ld_atHL_H => [0x74]
  | .ld_atHL_L => [0x75]
  | .ld_atHL_A => [0x77]
  | .ld_A_B => [0x78]
  | .ld_A_C => [0x79]
  | .ld_A_D => [0x7A]
  | .ld_A_E => [0x7B]
  | .ld_A_H => [0x7C]
  | .ld_A_L => [0x7D]
  | .ld_A_atHL => [0x7E]
  | .ld_A_A => [0x7F]
  | .add_A_B => [0x80]
  | .add_A_C => [0x81]
  | .add_A_D => [0x82]
  | .add_A_E => [0x83]
  | .add_A_H => [0x84]
  | .add_A_L => [0x85]
  | .add_A_atHL => [0x86]
  | .add_A_A => [0x87]
  | .adc_A_B => [0x88]
  | .adc_A_C => [0x89]
  | .adc_A_D => [0x8A]
  | .adc_A_E => [0x8B]
  | .adc_A_H => [0x8C]
  | .adc_A_L => [0x8D]
  | .adc_A_atHL => [0x8E]
  | .adc_A_A => [0x8F]
  | .sub_B => [0x90]
  | .sub_C => [0x91]
  | .sub_D => [0x92]
  | .sub_E => [0x93]
  | .sub_H => [0x94]
  | .sub_L => [0x95]
  | .sub_atHL => [0x96]
  | .sub_A => [0x97]
  | .and_B => [0xA0]
  | .and_C => [0xA1]
  | .and_D => [0xA2]
  | .and_E => [0xA3]
  | .and_H => [0xA4]
  | .and_L => [0xA5]
  | .and_atHL => [0xA6]
  | .and_A => [0xA7]
  | .xor_B => [0xA8]
  | .xor_C => [0xA9]
  | .xor_D => [0xAA]
  | .xor_E => [0xAB]
  | .xor_H => [0xAC]
  | .xor_L => [0xAD]
  | .xor_atHL => [0xAE]
  | .xor_A => [0xAF]
  | .or_B => [0xB0]
  | .or_C => [0xB1]
  | .or_D => [0xB2]
  | .or_E => [0xB3]
  | .or_H => [0xB4]
  | .or_L => [0xB5]
  | .or_atHL => [0xB6]
  | .or_A => [0xB7]
  | .cp_B => [0xB8]
  | .cp_C => [0xB9]
  | .cp_D => [0xBA]
  | .cp_E => [0xBB]
  | .cp_H => [0xBC]
  | .cp_L => [0xBD]
  | .cp_atHL => [0xBE]
  | .cp_A => [0xBF]
  | .ret_NZ => [0xC0]
  | .pop_BC => [0xC1]
  | .jp_NZ_a16 w => [0xC2, lo w, hi w]
  | .jp_a16 w => [0xC3, lo w, hi w]
  | .call_NZ_a16 w => [0xC4, lo w, hi w]
  | .push_BC => [0xC5]
  | .add_A_d8 n => [0xC6, n]
  | .ret_Z => [0xC8]
  | .ret => [0xC9]
  | .jp_Z_a16 w => [0xCA, lo w, hi w]
  | .call_Z_a16 w => [0xCC, lo w, hi w]
  | .call_a16 w => [0xCD, lo w, hi w]
  | .adc_A_d8 n => [0xCE, n]
  | .ret_NC => [0xD0]
  | .pop_DE => [0xD1]
  | .jp_NC_a16 w => [0xD2, lo w, hi w]
  | .call_NC_a16 w => [0xD4, lo w, hi w]
  | .push_DE => [0xD5]
  | .sub_d8 n => [0xD6, n]
  | .ret_C => [0xD8]
  | .reti => [0xD9]
  | .jp_C_a16 w => [0xDA, lo w, hi w]
  | .call_C_a16 w => [0xDC, lo w, hi w]
  | .ldh_atA8_A n => [0xE0, n]
  | .pop_HL => [0xE1]
  | .ld_atC_A => [0xE2]
  | .push_HL => [0xE5]
  | .and_d8 n => [0xE6, n]
  | .add_SP_e8 n => [0xE8, n]
  | .jp_atHL => [0xE9]
  | .ld_atA16_A w => [0xEA, lo w, hi w]
  | .xor_d8 n => [0xEE, n]
  | .ldh_A_atA8 n => [0xF0, n]
  | .pop_AF => [0xF1]
  | .ld_A_atC => [0xF2]
  | .di => [0xF3]
  | .push_AF => [0xF5]
  | .or_d8 n => [0xF6, n]
  | .ld_HL_SPe8 n => [0xF8, n]
  | .ld_SP_HL => [0xF9]
  | .ld_A_atA16 w => [0xFA, lo w, hi w]
  | .ei => [0xFB]
  | .cp_d8 n => [0xFE, n]
  | .rl_B => [0xCB, 0x10]
  | .rl_C => [0xCB, 0x11]
  | .rl_D => [0xCB, 0x12]
  | .rl_E => [0xCB, 0x13]
  | .rl_H => [0xCB, 0x14]
  | .rl_L => [0xCB, 0x15]
  | .rl_A => [0xCB, 0x17]
  | .swap_B => [0xCB, 0x30]
  | .swap_C => [0xCB, 0x31]
  | .swap_D => [0xCB, 0x32]
  | .swap_E => [0xCB, 0x33]
  | .swap_H => [0xCB, 0x34]
  | .swap_L => [0xCB, 0x35]
  | .swap_atHL => [0xCB, 0x36]
  | .swap_A => [0xCB, 0x37]
  | .bit_0_B => [0xCB, 0x40]
  | .bit_0_C => [0xCB, 0x41]
  | .bit_0_D => [0xCB, 0x42]
  | .bit_0_E => [0xCB, 0x43]
  | .bit_0_H => [0xCB, 0x44]
  | .bit_0_L => [0xCB, 0x45]
  | .bit_0_atHL => [0xCB, 0x46]
  | .bit_0_A => [0xCB, 0x47]
  | .bit_1_B => [0xCB, 0x48]
  | .bit_1_C => [0xCB, 0x49]
  | .bit_1_D => [0xCB, 0x4A]
  | .bit_1_E => [0xCB, 0x4B]
  | .bit_1_H => [0xCB, 0x4C]
  | .bit_1_L => [0xCB, 0x4D]
  | .bit_1_atHL => [0xCB, 0x4E]
  | .bit_1_A => [0xCB, 0x4F]
  | .bit_2_B => [0xCB, 0x50]
  | .bit_2_C => [0xCB, 0x51]
  | .bit_2_D => [0xCB, 0x52]
  | .bit_2_E => [0xCB, 0x53]
  | .bit_2_H => [0xCB, 0x54]
  | .bit_2_L => [0xCB, 0x55]
  | .bit_2_atHL => [0xCB, 0x56]
  | .bit_2_A => [0xCB, 0x57]
  | .bit_3_B => [0xCB, 0x58]
  | .bit_3_C => [0xCB, 0x59]
  | .bit_3_D => [0xCB, 0x5A]
  | .bit_3_E => [0xCB, 0x5B]
  | .bit_3_H => [0xCB, 0x5C]
  | .bit_3_L => [0xCB, 0x5D]
  | .bit_3_atHL => [0xCB, 0x5E]
  | .bit_3_A => [0xCB, 0x5F]
  | .bit_4_B => [0xCB, 0x60]
  | .bit_4_C => [0xCB, 0x61]
  | .bit_4_D => [0xCB, 0x62]
  | .bit_4_E => [0xCB, 0x63]
  | .bit_4_H => [0xCB, 0x64]
  | .bit_4_L => [0xCB, 0x65]
  | .bit_4_atHL => [0xCB, 0x66]
  | .bit_4_A => [0xCB, 0x67]
  | .bit_5_B => [0xCB, 0x68]
  | .bit_5_C => [0xCB, 0x69]
  | .bit_5_D => [0xCB, 0x6A]
  | .bit_5_E => [0xCB, 0x6B]
  | .bit_5_H => [0xCB, 0x6C]
  | .bit_5_L => [0xCB, 0x6D]
  | .bit_5_atHL => [0xCB, 0x6E]
  | .bit_5_A => [0xCB, 0x6F]
  | .bit_6_B => [0xCB, 0x70]
  | .bit_6_C => [0xCB, 0x71]
  | .bit_6_D => [0xCB, 0x72]
  | .bit_6_E => [0xCB, 0x73]
  | .bit_6_H => [0xCB, 0x74]
  | .bit_6_L => [0xCB, 0x75]
  | .bit_6_atHL => [0xCB, 0x76]
  | .bit_6_A => [0xCB, 0x77]
  | .bit_7_B => [0xCB, 0x78]
  | .bit_7_C => [0xCB, 0x79]
  | .bit_7_D => [0xCB, 0x7A]
  | .bit_7_E => [0xCB, 0x7B]
  | .bit_7_H => [0xCB, 0x7C]
  | .bit_7_L => [0xCB, 0x7D]
  | .bit_7_atHL => [0xCB, 0x7E]
  | .bit_7_A => [0xCB, 0x7F]

end Sys2Proof
end

