-- ==== Sys2Proof/Machine/Fetch.lean ====
section
/-! DEFINITION. Fetching: the bytes an instruction at an address may take, its decoding from memory, and laying bytes down for a fetch. -/

namespace Sys2Proof.Machine

/-- The bytes after the first that an instruction at address `a` may take: at most two, and none past 0xFFFF (30_encoding.md R85, R86). -/
def operandBytes (m : Memory) (a : Word) : List Byte :=
  if a.toNat + 2 ≤ 0xFFFF then [m.read (a.toNat + 1), m.read (a.toNat + 2)]
  else if a.toNat + 1 ≤ 0xFFFF then [m.read (a.toNat + 1)]
  else []

/-- `decode(a, mem)`, a function of the address and the memory contents alone (30_encoding.md R85). -/
def decodeAt (a : Word) (m : Memory) : DecodeResult := decodeBytes (m.read a.toNat) (operandBytes m a)

/-- Lay bytes down from an address on, by plain stores; bytes that would pass 0xFFFF are dropped. -/
def State.placeBytes (s : State) (a : Word) : List Byte → State
  | [] => s
  | v :: vs => if a = 0xFFFF then s.plainWrite a v else (s.plainWrite a v).placeBytes (a + 1) vs

/-- Lay an instruction of the opcode table down where the next step fetches (log entry 9). -/
def State.placeTableWord (s : State) (nbits w : Nat) : State := s.placeBytes s.cpu.pc (tableWordBytes nbits w)

end Sys2Proof.Machine
end

