-- ==== Sys2Proof/Machine/Ppu.lean ====
section
/-! DEFINITION. The PPU: the scanline tick, the row renderer, the background pixel (61_ppu.md). -/

namespace Sys2Proof.Machine

/-- LCDC, whose bit 7 is "LCD enabled" (61_ppu.md R301). -/
def addrLcdc : Word := 0xFF40

/-- SCY, the vertical scroll (61_ppu.md R301). -/
def addrScy : Word := 0xFF42

/-- SCX, the horizontal scroll (61_ppu.md R301). -/
def addrScx : Word := 0xFF43

/-- LY, the hardware line counter (61_ppu.md R301). -/
def addrLy : Word := 0xFF44

/-- The shade an index shows (61_ppu.md R303). -/
def Palette.shade (p : Palette) : Fin 4 → Shade
  | 0 => p.c0
  | 1 => p.c1
  | 2 => p.c2
  | 3 => p.c3

/-- The tile number of the background plane at a column and row in 0..255 (61_ppu.md R307). -/
def tileNumber (m : Memory) (col row : Nat) : Byte := m.read (0x9800 + row / 8 * 32 + col / 8)

/-- `bgIndex(bx, by)`: the 2-bit colour index of the background plane (61_ppu.md R307). -/
def bgIndex (m : Memory) (col row : Nat) : Fin 4 :=
  let t := 0x8000 + 16 * (tileNumber m col row).toNat
  let lowBits := m.read (t + 2 * (row % 8))
  let highBits := m.read (t + 2 * (row % 8) + 1)
  let b := 7 - col % 8
  match highBits.getLsbD b, lowBits.getLsbD b with
  | false, false => 0
  | false, true => 1
  | true, false => 2
  | true, true => 3

/-- The shade of framebuffer pixel (x, y) with the scroll registers as they are (61_ppu.md R308). -/
def State.pixel (s : State) (x y : Nat) : Shade :=
  let wrap := s.cfg.bgWrap.modulus
  let col := (x + (s.memRead addrScx).toNat) % wrap
  let row := (y + (s.memRead addrScy).toNat) % wrap
  s.ppu.palette.shade (bgIndex s.mem col row)

/-- `renderLine(y)`: fill framebuffer row y (61_ppu.md R308). -/
def State.renderLine (s : State) (y : Nat) : State :=
  { s with ppu := { s.ppu with fb := s.ppu.fb.setIfInBounds y (Vector.ofFn fun x => s.pixel x.val y) } }

/-- One crossing of 456: the line counter goes up modulo 154, and a new line n in 1..144 renders row n − 1
(61_ppu.md R305, R306). -/
def State.nextLine (s : State) : State :=
  let n := ((s.memRead addrLy).toNat + 1) % 154
  let t := s.plainWrite addrLy (BitVec.ofNat 8 n)
  if 1 ≤ n ∧ n ≤ 144 then t.renderLine (n - 1) else t

/-- The crossings of one tick, one after another (61_ppu.md R305). -/
def State.nextLines (s : State) : Nat → State
  | 0 => s
  | k + 1 => s.nextLine.nextLines k

/-- `acc <- v` (61_ppu.md R300). -/
def State.setAcc (s : State) (v : Fin 456) : State := { s with ppu := { s.ppu with acc := v } }

/-- `ppuTick(s, cycles)`. With the LCD off LY becomes 0 and nothing else changes (61_ppu.md R304). With it on, the accumulator takes
the cycles and every 456 of them is a crossing (R305): the loop "while acc ≥ 456" runs (acc + cycles) / 456 times and leaves the
remainder (log entry 7). -/
def State.ppuTick (s : State) (cycles : Nat) : State :=
  if (s.memRead addrLcdc).getLsbD 7 then
    let total := s.ppu.acc.val + cycles
    (s.setAcc (Fin.ofNat 456 total)).nextLines (total / 456)
  else s.plainWrite addrLy 0

/-- The background plane as `getVramData()` gives it: 256 rows of 256 shades, from memory and palette alone (61_ppu.md R310). -/
def State.background (s : State) : List (List Shade) :=
  (List.range 256).map fun row => (List.range 256).map fun col => s.ppu.palette.shade (bgIndex s.mem col row)

end Sys2Proof.Machine
end

