-- ==== Sys2Proof/Machine/SystemStep.lean ====
section
/-! DEFINITION. The CPU step and the system step (50_cpu_driver.md R250 to R252). -/

namespace Sys2Proof.Machine

/-- The handler's part of a CPU step, once the instruction is decoded: advance PC by its size, run its meaning, apply the EI delay
(50_cpu_driver.md R250, R251). -/
def runInstr (i : Instr) (s : State) : Host.Outcome State Fault Refusal :=
  match exec i (s.advancePc i.size) with
  | .next t => .next t.applyEiDelay
  | .fault f => .fault f
  | .refused r => .refused r

/-- `cpuStep`: decode at PC; a DecodeError ends the step and the state stays as it was (50_cpu_driver.md R250, R256). The count the
instruction reports is in `cycles`. -/
def cpuStep (s : State) : Host.Outcome State Fault Refusal :=
  match decodeAt s.cpu.pc s.mem with
  | .ok i => runInstr i s
  | .unknownOpcode v => .fault (decodeFault .unknownOpcode s.cpu.pc v)
  | .unknownPrefixedOpcode v => .fault (decodeFault .unknownPrefixedOpcode s.cpu.pc v)
  | .outOfRange v => .fault (decodeFault .outOfRange s.cpu.pc v)

/-- The device ticks of a step, by the cycles the instruction reported: the PPU, then the APU (50_cpu_driver.md R252). -/
def State.tickDevices (s : State) : State := (s.ppuTick s.cycles).apuTick s.cycles

/-- `systemStep`: the CPU step, then the devices; no device tick after a fault (50_cpu_driver.md R252, R256). -/
def systemStep (s : State) : Host.Outcome State Fault Refusal :=
  match cpuStep s with
  | .next t => .next t.tickDevices
  | .fault f => .fault f
  | .refused r => .refused r

end Sys2Proof.Machine
end

