-- ==== Sys2Proof/Machine/Step.lean ====
section
/-! DEFINITION. The step of the machine, and placing an instruction where the next step fetches. -/

namespace Sys2Proof.Machine

/-- One step is one system step (50_cpu_driver.md R252, R253). -/
def step (s : State) : Host.Outcome State Fault Refusal := systemStep s

/-- The state with an instruction of the opcode table stored at PC, where the next step fetches. -/
def State.withFetchWord (s : State) (nbits w : Nat) : State := s.placeTableWord nbits w

end Sys2Proof.Machine
end

