-- ==== Sys2Proof/WellFormed.lean ====
section
/-! DEFINITION. Well-formedness. Every term of `Instr` is an instruction of the table with operands in range: its types leave nothing
else (10_state.md R31; 60_exceptions.md R284; log entry 20). What can be ill-formed is an instruction at an address (30_encoding.md R86),
a program image (50_cpu_driver.md R258) and a configuration (00_scope.md R5). -/

namespace Sys2Proof

/-- An instruction of size s fits at address a when a + s − 1 ≤ 0xFFFF (30_encoding.md R86). -/
def Instr.fitsAt (i : Instr) (a : Word) : Bool := decide (a.toNat + i.size ≤ 0x10000)

/-- A program image is at most 65536 bytes long (50_cpu_driver.md R258). -/
def imageFits (image : List Byte) : Bool := decide (image.length ≤ 65536)

/-- A configuration the rules make sense for: a sample period of at least 1 (62_apu.md R330), a channel reload of at least 1
(62_apu.md R333, R334), and at least 4 cycles for every instruction (50_cpu_driver.md R250). -/
def Config.wellFormed (cfg : Config) : Bool :=
  decide (1 ≤ cfg.samplePeriod) && decide (1 ≤ cfg.dutyStepScale) && cfg.cycleOverrides.all fun o => decide (4 ≤ o.2)

end Sys2Proof
end

