-- ==== Sys2Proof/Machine/HostCalls.lean ====
section
/-! DEFINITION. Construction and the introspection calls of the host (50_cpu_driver.md R258 to R261). A call that writes gives the
state after it; it acts between steps and touches nothing else (R259, R265). -/

namespace Sys2Proof.Machine

/-- `new(programBytes, callback)` for a configuration: the reset state with the image at address 0, stored plainly; an image longer
than 65536 bytes is refused and no machine is built (50_cpu_driver.md R258). The callback's calls are the list `samples` (R262). -/
def construct (cfg : Config) (image : List Byte) : Host.Outcome State Fault Refusal :=
  if imageFits image then .next { State.resetWith cfg with mem := Memory.ofImage 0 image }
  else .refused (.imageTooLong image.length)

/-- `getRegister8(r)` (50_cpu_driver.md R259). -/
def State.getRegister8 (s : State) : Reg8 → Byte
  | .a => s.cpu.a
  | .f => s.cpu.flags.toByte
  | .b => s.cpu.b
  | .c => s.cpu.c
  | .d => s.cpu.d
  | .e => s.cpu.e
  | .h => s.cpu.h
  | .l => s.cpu.l

/-- `setRegister8(r, v)`; a write to F drops its low nibble (50_cpu_driver.md R259; 10_state.md R22, R25). -/
def State.setRegister8 (s : State) (r : Reg8) (v : Byte) : State :=
  match r with
  | .a => s.setReg .a v
  | .f => s.setFlags (Flags.ofByte v)
  | .b => s.setReg .b v
  | .c => s.setReg .c v
  | .d => s.setReg .d v
  | .e => s.setReg .e v
  | .h => s.setReg .h v
  | .l => s.setReg .l v

/-- `getRegister16(rr)`, PC among them (50_cpu_driver.md R259). -/
def State.getRegister16 (s : State) : Reg16 → Word
  | .af => s.stackPair .af
  | .bc => s.pair .bc
  | .de => s.pair .de
  | .hl => s.pair .hl
  | .sp => s.cpu.sp
  | .pc => s.cpu.pc

/-- `setRegister16(rr, v)` (50_cpu_driver.md R259; 10_state.md R23, R25). -/
def State.setRegister16 (s : State) (r : Reg16) (w : Word) : State :=
  match r with
  | .af => s.setStackPair .af w
  | .bc => s.setPair .bc w
  | .de => s.setPair .de w
  | .hl => s.setPair .hl w
  | .sp => s.setSp w
  | .pc => s.setPc w

/-- `getFlag(f)` (50_cpu_driver.md R259; 10_state.md R26). -/
def State.getFlag (s : State) (f : Flag) : Bool := s.cpu.flags.get f

/-- `setFlag(f, b)` (50_cpu_driver.md R259; 10_state.md R26). -/
def State.setFlag (s : State) (f : Flag) (v : Bool) : State := s.setFlags (s.cpu.flags.set f v)

/-- `getMemoryAt(a)` (50_cpu_driver.md R260). -/
def State.getMemoryAt (s : State) (a : Word) : Byte := s.memRead a

/-- `setMemoryAt(a, v)` runs the write observers, as a CPU store does (50_cpu_driver.md R260). -/
def State.setMemoryAt (s : State) (a : Word) (v : Byte) : State := s.memWrite a v

/-- `getMemorySlice(a, n)` clamps to the end of the address space and does not wrap (50_cpu_driver.md R260; 20_memory.md R63). -/
def State.getMemorySlice (s : State) (a : Word) (n : Nat) : List Byte :=
  (List.range (min n (65536 - a.toNat))).map fun k => s.mem.read (a.toNat + k)

/-- `getScreenData()`: the framebuffer as a flat buffer, pixel (x, y) at offset y·160 + x (50_cpu_driver.md R261; 61_ppu.md R309). -/
def State.getScreenData (s : State) : List Shade := (s.ppu.fb.toList.map Vector.toList).flatten

/-- `getVramData()`: the background plane as a flat buffer, pixel (bx, by) at offset by·256 + bx (50_cpu_driver.md R261;
61_ppu.md R310). -/
def State.getVramData (s : State) : List Shade := s.background.flatten

end Sys2Proof.Machine
end

