-- ==== Sys2Proof/Machine/Driver.lean ====
section
/-! DEFINITION. The CPU driver's calls: one step, and the frame tick with its cycle budget and breakpoints
(50_cpu_driver.md R253 to R257). A call returns its result and the state it leaves. -/

namespace Sys2Proof.Machine

/-- What `stepOnce()` returns: the cycles consumed, or the DecodeError (50_cpu_driver.md R253). -/
inductive StepResult
  | cyclesConsumed (n : Nat)
  | decodeError (f : Fault)
  | refused (r : Refusal)
deriving DecidableEq, Repr

/-- `stepOnce()`: one system step. A step that faults leaves the state as it was (50_cpu_driver.md R253, R256). -/
def stepOnce (s : State) : StepResult × State :=
  match step s with
  | .next t => (.cyclesConsumed t.cycles, t)
  | .fault f => (.decodeError f, s)
  | .refused r => (.refused r, s)

/-- What `tick` returns (50_cpu_driver.md R255; 90_conflicts.md C9). -/
inductive TickResult
  | hitBreakpoint
  | frameComplete
  | decodeError (f : Fault)
  | refused (r : Refusal)
  /-- The steps R255 allows ran out. Only a configuration that gives an instruction fewer than 4 cycles, an ill-formed one, answers it
  (log entry 8). -/
  | unfinished
deriving DecidableEq, Repr

/-- The loop of the frame tick: after every step the breakpoint test, then the budget test (50_cpu_driver.md R254). The first argument
bounds the steps. -/
def frameLoop : Nat → State → Nat → Nat → List Word → TickResult × State
  | 0, s, _, _, _ => (.unfinished, s)
  | k + 1, s, acc, budget, breakpoints =>
    match step s with
    | .fault f => (.decodeError f, s)
    | .refused r => (.refused r, s)
    | .next t =>
      if t.cpu.pc ∈ breakpoints then (.hitBreakpoint, t)
      else if acc + t.cycles > budget then (.frameComplete, t)
      else frameLoop k t (acc + t.cycles) budget breakpoints

/-- `tick`, with the budget the host computed from dt: at least one step, and at most floor(budget / 4) + 1 of them
(50_cpu_driver.md R254, R255). -/
def frameTick (s : State) (budget : Nat) (breakpoints : List Word) : TickResult × State :=
  frameLoop (budget / 4 + 1) s 0 budget breakpoints

end Sys2Proof.Machine
end

