-- ==== Sys2Proof/Machine/Forms.lean ====
section
/-! DEFINITION. The rows of the opcode table by form and operand: one constructor for each rule's form, with the operand fields of
30_encoding.md R82, and the row of the table it stands for. Claims that hold for every register, pair, condition or bit index of a form
are stated through `Form.instr`. -/

namespace Sys2Proof

/-- The forms of instruction that the rules of files 40 to 46 describe. -/
inductive Form
  /-- R120 -/
  | nop
  /-- R138 -/
  | ldPairImm (p : Pair) (w : Word)
  /-- R126 -/
  | ldPairIndA (p : IndPair)
  /-- R194 -/
  | incPair (p : Pair)
  /-- R190 -/
  | incReg (r : Reg)
  /-- R192 -/
  | decReg (r : Reg)
  /-- R124 -/
  | ldRegImm (dst : Reg) (n : Byte)
  /-- R139 -/
  | ldAbsSp (w : Word)
  /-- R182 -/
  | addHl (p : Pair)
  /-- R127 -/
  | ldAPairInd (p : IndPair)
  /-- R195 -/
  | decPair (p : Pair)
  /-- R203 -/
  | rla
  /-- R210 -/
  | jr (e : Byte)
  /-- R211 -/
  | jrCond (cc : Cond) (e : Byte)
  /-- R128 -/
  | ldIndIncA
  /-- R130 -/
  | ldAIndInc
  /-- R240 -/
  | cpl
  /-- R129 -/
  | ldIndDecA
  /-- R191 -/
  | incInd
  /-- R193 -/
  | decInd
  /-- R125 -/
  | ldIndImm (n : Byte)
  /-- R241 -/
  | scf
  /-- R131 -/
  | ldAIndDec
  /-- R121 -/
  | ldRegReg (dst r : Reg)
  /-- R122 -/
  | ldRegInd (dst : Reg)
  /-- R123 -/
  | ldIndReg (r : Reg)
  /-- R162, R165, R167, R170, R173, R176, R179 -/
  | aluReg (op : Alu) (r : Reg)
  /-- R163, R166, R168, R171, R174, R177, R180 -/
  | aluInd (op : Alu)
  /-- R218 -/
  | retCond (cc : Cond)
  /-- R231, R232 -/
  | pop (q : StackPair)
  /-- R213 -/
  | jpCond (cc : Cond) (w : Word)
  /-- R212 -/
  | jp (w : Word)
  /-- R216 -/
  | callCond (cc : Cond) (w : Word)
  /-- R230 -/
  | push (q : StackPair)
  /-- R164, R166, R169, R172, R175, R178, R181 -/
  | aluImm (op : Alu) (n : Byte)
  /-- R217 -/
  | ret
  /-- R215 -/
  | call (w : Word)
  /-- R219 -/
  | reti
  /-- R132 -/
  | ldhConstA (n : Byte)
  /-- R134 -/
  | ldHighRegA
  /-- R233 -/
  | addSp (e : Byte)
  /-- R214 -/
  | jpHl
  /-- R136 -/
  | ldAbsA (w : Word)
  /-- R133 -/
  | ldhAConst (n : Byte)
  /-- R135 -/
  | ldAHighReg
  /-- R243 -/
  | di
  /-- R141 -/
  | ldHlSpDisp (e : Byte)
  /-- R140 -/
  | ldSpHl
  /-- R137 -/
  | ldAAbs (w : Word)
  /-- R242 -/
  | ei
  /-- R202 -/
  | rlReg (r : Reg)
  /-- R244 -/
  | swapReg (r : Reg)
  /-- R245 -/
  | swapInd
  /-- R200 -/
  | bitReg (b : Fin 8) (r : Reg)
  /-- R201 -/
  | bitInd (b : Fin 8)
deriving DecidableEq, Repr

/-- The row of spec/opcode_table.json that a form with its operands is. -/
def Form.instr (f : Form) : Instr :=
  match f with
  | .nop => .nop
  | .ldPairImm .bc w => .ld_BC_d16 w
  | .ldPairImm .de w => .ld_DE_d16 w
  | .ldPairImm .hl w => .ld_HL_d16 w
  | .ldPairImm .sp w => .ld_SP_d16 w
  | .ldPairIndA .bc => .ld_atBC_A
  | .ldPairIndA .de => .ld_atDE_A
  | .incPair .bc => .inc_BC
  | .incPair .de => .inc_DE
  | .incPair .hl => .inc_HL
  | .incPair .sp => .inc_SP
  | .incReg .b => .inc_B
  | .incReg .c => .inc_C
  | .incReg .d => .inc_D
  | .incReg .e => .inc_E
  | .incReg .h => .inc_H
  | .incReg .l => .inc_L
  | .incReg .a => .inc_A
  | .decReg .b => .dec_B
  | .decReg .c => .dec_C
  | .decReg .d => .dec_D
  | .decReg .e => .dec_E
  | .decReg .h => .dec_H
  | .decReg .l => .dec_L
  | .decReg .a => .dec_A
  | .ldRegImm .b n => .ld_B_d8 n
  | .ldRegImm .c n => .ld_C_d8 n
  | .ldRegImm .d n => .ld_D_d8 n
  | .ldRegImm .e n => .ld_E_d8 n
  | .ldRegImm .h n => .ld_H_d8 n
  | .ldRegImm .l n => .ld_L_d8 n
  | .ldRegImm .a n => .ld_A_d8 n
  | .ldAbsSp w => .ld_atA16_SP w
  | .addHl .bc => .add_HL_BC
  | .addHl .de => .add_HL_DE
  | .addHl .hl => .add_HL_HL
  | .addHl .sp => .add_HL_SP
  | .ldAPairInd .bc => .ld_A_atBC
  | .ldAPairInd .de => .ld_A_atDE
  | .decPair .bc => .dec_BC
  | .decPair .de => .dec_DE
  | .decPair .hl => .dec_HL
  | .decPair .sp => .dec_SP
  | .rla => .rla
  | .jr n => .jr_e8 n
  | .jrCond .nz n => .jr_NZ_e8 n
  | .jrCond .z n => .jr_Z_e8 n
  | .jrCond .nc n => .jr_NC_e8 n
  | .jrCond .c n => .jr_C_e8 n
  | .ldIndIncA => .ld_atHLinc_A
  | .ldAIndInc => .ld_A_atHLinc
  | .cpl => .cpl
  | .ldIndDecA => .ld_atHLdec_A
  | .incInd => .inc_atHL
  | .decInd => .dec_atHL
  | .ldIndImm n => .ld_atHL_d8 n
  | .scf => .scf
  | .ldAIndDec => .ld_A_atHLdec
  | .ldRegReg .b .b => .ld_B_B
  | .ldRegReg .b .c => .ld_B_C
  | .ldRegReg .b .d => .ld_B_D
  | .ldRegReg .b .e => .ld_B_E
  | .ldRegReg .b .h => .ld_B_H
  | .ldRegReg .b .l => .ld_B_L
  | .ldRegReg .b .a => .ld_B_A
  | .ldRegReg .c .b => .ld_C_B
  | .ldRegReg .c .c => .ld_C_C
  | .ldRegReg .c .d => .ld_C_D
  | .ldRegReg .c .e => .ld_C_E
  | .ldRegReg .c .h => .ld_C_H
  | .ldRegReg .c .l => .ld_C_L
  | .ldRegReg .c .a => .ld_C_A
  | .ldRegReg .d .b => .ld_D_B
  | .ldRegReg .d .c => .ld_D_C
  | .ldRegReg .d .d => .ld_D_D
  | .ldRegReg .d .e => .ld_D_E
  | .ldRegReg .d .h => .ld_D_H
  | .ldRegReg .d .l => .ld_D_L
  | .ldRegReg .d .a => .ld_D_A
  | .ldRegReg .e .b => .ld_E_B
  | .ldRegReg .e .c => .ld_E_C
  | .ldRegReg .e .d => .ld_E_D
  | .ldRegReg .e .e => .ld_E_E
  | .ldRegReg .e .h => .ld_E_H
  | .ldRegReg .e .l => .ld_E_L
  | .ldRegReg .e .a => .ld_E_A
  | .ldRegReg .h .b => .ld_H_B
  | .ldRegReg .h .c => .ld_H_C
  | .ldRegReg .h .d => .ld_H_D
  | .ldRegReg .h .e => .ld_H_E
  | .ldRegReg .h .h => .ld_H_H
  | .ldRegReg .h .l => .ld_H_L
  | .ldRegReg .h .a => .ld_H_A
  | .ldRegReg .l .b => .ld_L_B
  | .ldRegReg .l .c => .ld_L_C
  | .ldRegReg .l .d => .ld_L_D
  | .ldRegReg .l .e => .ld_L_E
  | .ldRegReg .l .h => .ld_L_H
  | .ldRegReg .l .l => .ld_L_L
  | .ldRegReg .l .a => .ld_L_A
  | .ldRegReg .a .b => .ld_A_B
  | .ldRegReg .a .c => .ld_A_C
  | .ldRegReg .a .d => .ld_A_D
  | .ldRegReg .a .e => .ld_A_E
  | .ldRegReg .a .h => .ld_A_H
  | .ldRegReg .a .l => .ld_A_L
  | .ldRegReg .a .a => .ld_A_A
  | .ldRegInd .b => .ld_B_atHL
  | .ldRegInd .c => .ld_C_atHL
  | .ldRegInd .d => .ld_D_atHL
  | .ldRegInd .e => .ld_E_atHL
  | .ldRegInd .h => .ld_H_atHL
  | .ldRegInd .l => .ld_L_atHL
  | .ldRegInd .a => .ld_A_atHL
  | .ldIndReg .b => .ld_atHL_B
  | .ldIndReg .c => .ld_atHL_C
  | .ldIndReg .d => .ld_atHL_D
  | .ldIndReg .e => .ld_atHL_E
  | .ldIndReg .h => .ld_atHL_H
  | .ldIndReg .l => .ld_atHL_L
  | .ldIndReg .a => .ld_atHL_A
  | .aluReg .add .b => .add_A_B
  | .aluReg .add .c => .add_A_C
  | .aluReg .add .d => .add_A_D
  | .aluReg .add .e => .add_A_E
  | .aluReg .add .h => .add_A_H
  | .aluReg .add .l => .add_A_L
  | .aluReg .add .a => .add_A_A
  | .aluReg .adc .b => .adc_A_B
  | .aluReg .adc .c => .adc_A_C
  | .aluReg .adc .d => .adc_A_D
  | .aluReg .adc .e => .adc_A_E
  | .aluReg .adc .h => .adc_A_H
  | .aluReg .adc .l => .adc_A_L
  | .aluReg .adc .a => .adc_A_A
  | .aluReg .sub .b => .sub_B
  | .aluReg .sub .c => .sub_C
  | .aluReg .sub .d => .sub_D
  | .aluReg .sub .e => .sub_E
  | .aluReg .sub .h => .sub_H
  | .aluReg .sub .l => .sub_L
  | .aluReg .sub .a => .sub_A
  | .aluReg .and .b => .and_B
  | .aluReg .and .c => .and_C
  | .aluReg .and .d => .and_D
  | .aluReg .and .e => .and_E
  | .aluReg .and .h => .and_H
  | .aluReg .and .l => .and_L
  | .aluReg .and .a => .and_A
  | .aluReg .xor .b => .xor_B
  | .aluReg .xor .c => .xor_C
  | .aluReg .xor .d => .xor_D
  | .aluReg .xor .e => .xor_E
  | .aluReg .xor .h => .xor_H
  | .aluReg .xor .l => .xor_L
  | .aluReg .xor .a => .xor_A
  | .aluReg .or .b => .or_B
  | .aluReg .or .c => .or_C
  | .aluReg .or .d => .or_D
  | .aluReg .or .e => .or_E
  | .aluReg .or .h => .or_H
  | .aluReg .or .l => .or_L
  | .aluReg .or .a => .or_A
  | .aluReg .cp .b => .cp_B
  | .aluReg .cp .c => .cp_C
  | .aluReg .cp .d => .cp_D
  | .aluReg .cp .e => .cp_E
  | .aluReg .cp .h => .cp_H
  | .aluReg .cp .l => .cp_L
  | .aluReg .cp .a => .cp_A
  | .aluInd .add => .add_A_atHL
  | .aluInd .adc => .adc_A_atHL
  | .aluInd .sub => .sub_atHL
  | .aluInd .and => .and_atHL
  | .aluInd .xor => .xor_atHL
  | .aluInd .or => .or_atHL
  | .aluInd .cp => .cp_atHL
  | .retCond .nz => .ret_NZ
  | .retCond .z => .ret_Z
  | .retCond .nc => .ret_NC
  | .retCond .c => .ret_C
  | .pop .bc => .pop_BC
  | .pop .de => .pop_DE
  | .pop .hl => .pop_HL
  | .pop .af => .pop_AF
  | .jpCond .nz w => .jp_NZ_a16 w
  | .jpCond .z w => .jp_Z_a16 w
  | .jpCond .nc w => .jp_NC_a16 w
  | .jpCond .c w => .jp_C_a16 w
  | .jp w => .jp_a16 w
  | .callCond .nz w => .call_NZ_a16 w
  | .callCond .z w => .call_Z_a16 w
  | .callCond .nc w => .call_NC_a16 w
  | .callCond .c w => .call_C_a16 w
  | .push .bc => .push_BC
  | .push .de => .push_DE
  | .push .hl => .push_HL
  | .push .af => .push_AF
  | .aluImm .add n => .add_A_d8 n
  | .aluImm .adc n => .adc_A_d8 n
  | .aluImm .sub n => .sub_d8 n
  | .aluImm .and n => .and_d8 n
  | .aluImm .xor n => .xor_d8 n
  | .aluImm .or n => .or_d8 n
  | .aluImm .cp n => .cp_d8 n
  | .ret => .ret
  | .call w => .call_a16 w
  | .reti => .reti
  | .ldhConstA n => .ldh_atA8_A n
  | .ldHighRegA => .ld_atC_A
  | .addSp n => .add_SP_e8 n
  | .jpHl => .jp_atHL
  | .ldAbsA w => .ld_atA16_A w
  | .ldhAConst n => .ldh_A_atA8 n
  | .ldAHighReg => .ld_A_atC
  | .di => .di
  | .ldHlSpDisp n => .ld_HL_SPe8 n
  | .ldSpHl => .ld_SP_HL
  | .ldAAbs w => .ld_A_atA16 w
  | .ei => .ei
  | .rlReg .b => .rl_B
  | .rlReg .c => .rl_C
  | .rlReg .d => .rl_D
  | .rlReg .e => .rl_E
  | .rlReg .h => .rl_H
  | .rlReg .l => .rl_L
  | .rlReg .a => .rl_A
  | .swapReg .b => .swap_B
  | .swapReg .c => .swap_C
  | .swapReg .d => .swap_D
  | .swapReg .e => .swap_E
  | .swapReg .h => .swap_H
  | .swapReg .l => .swap_L
  | .swapReg .a => .swap_A
  | .swapInd => .swap_atHL
  | .bitReg 0 .b => .bit_0_B
  | .bitReg 0 .c => .bit_0_C
  | .bitReg 0 .d => .bit_0_D
  | .bitReg 0 .e => .bit_0_E
  | .bitReg 0 .h => .bit_0_H
  | .bitReg 0 .l => .bit_0_L
  | .bitReg 0 .a => .bit_0_A
  | .bitReg 1 .b => .bit_1_B
  | .bitReg 1 .c => .bit_1_C
  | .bitReg 1 .d => .bit_1_D
  | .bitReg 1 .e => .bit_1_E
  | .bitReg 1 .h => .bit_1_H
  | .bitReg 1 .l => .bit_1_L
  | .bitReg 1 .a => .bit_1_A
  | .bitReg 2 .b => .bit_2_B
  | .bitReg 2 .c => .bit_2_C
  | .bitReg 2 .d => .bit_2_D
  | .bitReg 2 .e => .bit_2_E
  | .bitReg 2 .h => .bit_2_H
  | .bitReg 2 .l => .bit_2_L
  | .bitReg 2 .a => .bit_2_A
  | .bitReg 3 .b => .bit_3_B
  | .bitReg 3 .c => .bit_3_C
  | .bitReg 3 .d => .bit_3_D
  | .bitReg 3 .e => .bit_3_E
  | .bitReg 3 .h => .bit_3_H
  | .bitReg 3 .l => .bit_3_L
  | .bitReg 3 .a => .bit_3_A
  | .bitReg 4 .b => .bit_4_B
  | .bitReg 4 .c => .bit_4_C
  | .bitReg 4 .d => .bit_4_D
  | .bitReg 4 .e => .bit_4_E
  | .bitReg 4 .h => .bit_4_H
  | .bitReg 4 .l => .bit_4_L
  | .bitReg 4 .a => .bit_4_A
  | .bitReg 5 .b => .bit_5_B
  | .bitReg 5 .c => .bit_5_C
  | .bitReg 5 .d => .bit_5_D
  | .bitReg 5 .e => .bit_5_E
  | .bitReg 5 .h => .bit_5_H
  | .bitReg 5 .l => .bit_5_L
  | .bitReg 5 .a => .bit_5_A
  | .bitReg 6 .b => .bit_6_B
  | .bitReg 6 .c => .bit_6_C
  | .bitReg 6 .d => .bit_6_D
  | .bitReg 6 .e => .bit_6_E
  | .bitReg 6 .h => .bit_6_H
  | .bitReg 6 .l => .bit_6_L
  | .bitReg 6 .a => .bit_6_A
  | .bitReg 7 .b => .bit_7_B
  | .bitReg 7 .c => .bit_7_C
  | .bitReg 7 .d => .bit_7_D
  | .bitReg 7 .e => .bit_7_E
  | .bitReg 7 .h => .bit_7_H
  | .bitReg 7 .l => .bit_7_L
  | .bitReg 7 .a => .bit_7_A
  | .bitInd 0 => .bit_0_atHL
  | .bitInd 1 => .bit_1_atHL
  | .bitInd 2 => .bit_2_atHL
  | .bitInd 3 => .bit_3_atHL
  | .bitInd 4 => .bit_4_atHL
  | .bitInd 5 => .bit_5_atHL
  | .bitInd 6 => .bit_6_atHL
  | .bitInd 7 => .bit_7_atHL

/-- The form and operands of a row: the other direction. -/
def Instr.form (i : Instr) : Form :=
  match i with
  | .nop => .nop
  | .ld_BC_d16 w => .ldPairImm .bc w
  | .ld_atBC_A => .ldPairIndA .bc
  | .inc_BC => .incPair .bc
  | .inc_B => .incReg .b
  | .dec_B => .decReg .b
  | .ld_B_d8 n => .ldRegImm .b n
  | .ld_atA16_SP w => .ldAbsSp w
  | .add_HL_BC => .addHl .bc
  | .ld_A_atBC => .ldAPairInd .bc
  | .dec_BC => .decPair .bc
  | .inc_C => .incReg .c
  | .dec_C => .decReg .c
  | .ld_C_d8 n => .ldRegImm .c n
  | .ld_DE_d16 w => .ldPairImm .de w
  | .ld_atDE_A => .ldPairIndA .de
  | .inc_DE => .incPair .de
  | .inc_D => .incReg .d
  | .dec_D => .decReg .d
  | .ld_D_d8 n => .ldRegImm .d n
  | .rla => .rla
  | .jr_e8 n => .jr n
  | .add_HL_DE => .addHl .de
  | .ld_A_atDE => .ldAPairInd .de
  | .dec_DE => .decPair .de
  | .inc_E => .incReg .e
  | .dec_E => .decReg .e
  | .ld_E_d8 n => .ldRegImm .e n
  | .jr_NZ_e8 n => .jrCond .nz n
  | .ld_HL_d16 w => .ldPairImm .hl w
  | .ld_atHLinc_A => .ldIndIncA
  | .inc_HL => .incPair .hl
  | .inc_H => .incReg .h
  | .dec_H => .decReg .h
  | .ld_H_d8 n => .ldRegImm .h n
  | .jr_Z_e8 n => .jrCond .z n
  | .add_HL_HL => .addHl .hl
  | .ld_A_atHLinc => .ldAIndInc
  | .dec_HL => .decPair .hl
  | .inc_L => .incReg .l
  | .dec_L => .decReg .l
  | .ld_L_d8 n => .ldRegImm .l n
  | .cpl => .cpl
  | .jr_NC_e8 n => .jrCond .nc n
  | .ld_SP_d16 w => .ldPairImm .sp w
  | .ld_atHLdec_A => .ldIndDecA
  | .inc_SP => .incPair .sp
  | .inc_atHL => .incInd
  | .dec_atHL => .decInd
  | .ld_atHL_d8 n => .ldIndImm n
  | .scf => .scf
  | .jr_C_e8 n => .jrCond .c n
  | .add_HL_SP => .addHl .sp
  | .ld_A_atHLdec => .ldAIndDec
  | .dec_SP => .decPair .sp
  | .inc_A => .incReg .a
  | .dec_A => .decReg .a
  | .ld_A_d8 n => .ldRegImm .a n
  | .ld_B_B => .ldRegReg .b .b
  | .ld_B_C => .ldRegReg .b .c
  | .ld_B_D => .ldRegReg .b .d
  | .ld_B_E => .ldRegReg .b .e
  | .ld_B_H => .ldRegReg .b .h
  | .ld_B_L => .ldRegReg .b .l
  | .ld_B_atHL => .ldRegInd .b
  | .ld_B_A => .ldRegReg .b .a
  | .ld_C_B => .ldRegReg .c .b
  | .ld_C_C => .ldRegReg .c .c
  | .ld_C_D => .ldRegReg .c .d
  | .ld_C_E => .ldRegReg .c .e
  | .ld_C_H => .ldRegReg .c .h
  | .ld_C_L => .ldRegReg .c .l
  | .ld_C_atHL => .ldRegInd .c
  | .ld_C_A => .ldRegReg .c .a
  | .ld_D_B => .ldRegReg .d .b
  | .ld_D_C => .ldRegReg .d .c
  | .ld_D_D => .ldRegReg .d .d
  | .ld_D_E => .ldRegReg .d .e
  | .ld_D_H => .ldRegReg .d .h
  | .ld_D_L => .ldRegReg .d .l
  | .ld_D_atHL => .ldRegInd .d
  | .ld_D_A => .ldRegReg .d .a
  | .ld_E_B => .ldRegReg .e .b
  | .ld_E_C => .ldRegReg .e .c
  | .ld_E_D => .ldRegReg .e .d
  | .ld_E_E => .ldRegReg .e .e
  | .ld_E_H => .ldRegReg .e .h
  | .ld_E_L => .ldRegReg .e .l
  | .ld_E_atHL => .ldRegInd .e
  | .ld_E_A => .ldRegReg .e .a
  | .ld_H_B => .ldRegReg .h .b
  | .ld_H_C => .ldRegReg .h .c
  | .ld_H_D => .ldRegReg .h .d
  | .ld_H_E => .ldRegReg .h .e
  | .ld_H_H => .ldRegReg .h .h
  | .ld_H_L => .ldRegReg .h .l
  | .ld_H_atHL => .ldRegInd .h
  | .ld_H_A => .ldRegReg .h .a
  | .ld_L_B => .ldRegReg .l .b
  | .ld_L_C => .ldRegReg .l .c
  | .ld_L_D => .ldRegReg .l .d
  | .ld_L_E => .ldRegReg .l .e
  | .ld_L_H => .ldRegReg .l .h
  | .ld_L_L => .ldRegReg .l .l
  | .ld_L_atHL => .ldRegInd .l
  | .ld_L_A => .ldRegReg .l .a
  | .ld_atHL_B => .ldIndReg .b
  | .ld_atHL_C => .ldIndReg .c
  | .ld_atHL_D => .ldIndReg .d
  | .ld_atHL_E => .ldIndReg .e
  | .ld_atHL_H => .ldIndReg .h
  | .ld_atHL_L => .ldIndReg .l
  | .ld_atHL_A => .ldIndReg .a
  | .ld_A_B => .ldRegReg .a .b
  | .ld_A_C => .ldRegReg .a .c
  | .ld_A_D => .ldRegReg .a .d
  | .ld_A_E => .ldRegReg .a .e
  | .ld_A_H => .ldRegReg .a .h
  | .ld_A_L => .ldRegReg .a .l
  | .ld_A_atHL => .ldRegInd .a
  | .ld_A_A => .ldRegReg .a .a
  | .add_A_B => .aluReg .add .b
  | .add_A_C => .aluReg .add .c
  | .add_A_D => .aluReg .add .d
  | .add_A_E => .aluReg .add .e
  | .add_A_H => .aluReg .add .h
  | .add_A_L => .aluReg .add .l
  | .add_A_atHL => .aluInd .add
  | .add_A_A => .aluReg .add .a
  | .adc_A_B => .aluReg .adc .b
  | .adc_A_C => .aluReg .adc .c
  | .adc_A_D => .aluReg .adc .d
  | .adc_A_E => .aluReg .adc .e
  | .adc_A_H => .aluReg .adc .h
  | .adc_A_L => .aluReg .adc .l
  | .adc_A_atHL => .aluInd .adc
  | .adc_A_A => .aluReg .adc .a
  | .sub_B => .aluReg .sub .b
  | .sub_C => .aluReg .sub .c
  | .sub_D => .aluReg .sub .d
  | .sub_E => .aluReg .sub .e
  | .sub_H => .aluReg .sub .h
  | .sub_L => .aluReg .sub .l
  | .sub_atHL => .aluInd .sub
  | .sub_A => .aluReg .sub .a
  | .and_B => .aluReg .and .b
  | .and_C => .aluReg .and .c
  | .and_D => .aluReg .and .d
  | .and_E => .aluReg .and .e
  | .and_H => .aluReg .and .h
  | .and_L => .aluReg .and .l
  | .and_atHL => .aluInd .and
  | .and_A => .aluReg .and .a
  | .xor_B => .aluReg .xor .b
  | .xor_C => .aluReg .xor .c
  | .xor_D => .aluReg .xor .d
  | .xor_E => .aluReg .xor .e
  | .xor_H => .aluReg .xor .h
  | .xor_L => .aluReg .xor .l
  | .xor_atHL => .aluInd .xor
  | .xor_A => .aluReg .xor .a
  | .or_B => .aluReg .or .b
  | .or_C => .aluReg .or .c
  | .or_D => .aluReg .or .d
  | .or_E => .aluReg .or .e
  | .or_H => .aluReg .or .h
  | .or_L => .aluReg .or .l
  | .or_atHL => .aluInd .or
  | .or_A => .aluReg .or .a
  | .cp_B => .aluReg .cp .b
  | .cp_C => .aluReg .cp .c
  | .cp_D => .aluReg .cp .d
  | .cp_E => .aluReg .cp .e
  | .cp_H => .aluReg .cp .h
  | .cp_L => .aluReg .cp .l
  | .cp_atHL => .aluInd .cp
  | .cp_A => .aluReg .cp .a
  | .ret_NZ => .retCond .nz
  | .pop_BC => .pop .bc
  | .jp_NZ_a16 w => .jpCond .nz w
  | .jp_a16 w => .jp w
  | .call_NZ_a16 w => .callCond .nz w
  | .push_BC => .push .bc
  | .add_A_d8 n => .aluImm .add n
  | .ret_Z => .retCond .z
  | .ret => .ret
  | .jp_Z_a16 w => .jpCond .z w
  | .call_Z_a16 w => .callCond .z w
  | .call_a16 w => .call w
  | .adc_A_d8 n => .aluImm .adc n
  | .ret_NC => .retCond .nc
  | .pop_DE => .pop .de
  | .jp_NC_a16 w => .jpCond .nc w
  | .call_NC_a16 w => .callCond .nc w
  | .push_DE => .push .de
  | .sub_d8 n => .aluImm .sub n
  | .ret_C => .retCond .c
  | .reti => .reti
  | .jp_C_a16 w => .jpCond .c w
  | .call_C_a16 w => .callCond .c w
  | .ldh_atA8_A n => .ldhConstA n
  | .pop_HL => .pop .hl
  | .ld_atC_A => .ldHighRegA
  | .push_HL => .push .hl
  | .and_d8 n => .aluImm .and n
  | .add_SP_e8 n => .addSp n
  | .jp_atHL => .jpHl
  | .ld_atA16_A w => .ldAbsA w
  | .xor_d8 n => .aluImm .xor n
  | .ldh_A_atA8 n => .ldhAConst n
  | .pop_AF => .pop .af
  | .ld_A_atC => .ldAHighReg
  | .di => .di
  | .push_AF => .push .af
  | .or_d8 n => .aluImm .or n
  | .ld_HL_SPe8 n => .ldHlSpDisp n
  | .ld_SP_HL => .ldSpHl
  | .ld_A_atA16 w => .ldAAbs w
  | .ei => .ei
  | .cp_d8 n => .aluImm .cp n
  | .rl_B => .rlReg .b
  | .rl_C => .rlReg .c
  | .rl_D => .rlReg .d
  | .rl_E => .rlReg .e
  | .rl_H => .rlReg .h
  | .rl_L => .rlReg .l
  | .rl_A => .rlReg .a
  | .swap_B => .swapReg .b
  | .swap_C => .swapReg .c
  | .swap_D => .swapReg .d
  | .swap_E => .swapReg .e
  | .swap_H => .swapReg .h
  | .swap_L => .swapReg .l
  | .swap_atHL => .swapInd
  | .swap_A => .swapReg .a
  | .bit_0_B => .bitReg 0 .b
  | .bit_0_C => .bitReg 0 .c
  | .bit_0_D => .bitReg 0 .d
  | .bit_0_E => .bitReg 0 .e
  | .bit_0_H => .bitReg 0 .h
  | .bit_0_L => .bitReg 0 .l
  | .bit_0_atHL => .bitInd 0
  | .bit_0_A => .bitReg 0 .a
  | .bit_1_B => .bitReg 1 .b
  | .bit_1_C => .bitReg 1 .c
  | .bit_1_D => .bitReg 1 .d
  | .bit_1_E => .bitReg 1 .e
  | .bit_1_H => .bitReg 1 .h
  | .bit_1_L => .bitReg 1 .l
  | .bit_1_atHL => .bitInd 1
  | .bit_1_A => .bitReg 1 .a
  | .bit_2_B => .bitReg 2 .b
  | .bit_2_C => .bitReg 2 .c
  | .bit_2_D => .bitReg 2 .d
  | .bit_2_E => .bitReg 2 .e
  | .bit_2_H => .bitReg 2 .h
  | .bit_2_L => .bitReg 2 .l
  | .bit_2_atHL => .bitInd 2
  | .bit_2_A => .bitReg 2 .a
  | .bit_3_B => .bitReg 3 .b
  | .bit_3_C => .bitReg 3 .c
  | .bit_3_D => .bitReg 3 .d
  | .bit_3_E => .bitReg 3 .e
  | .bit_3_H => .bitReg 3 .h
  | .bit_3_L => .bitReg 3 .l
  | .bit_3_atHL => .bitInd 3
  | .bit_3_A => .bitReg 3 .a
  | .bit_4_B => .bitReg 4 .b
  | .bit_4_C => .bitReg 4 .c
  | .bit_4_D => .bitReg 4 .d
  | .bit_4_E => .bitReg 4 .e
  | .bit_4_H => .bitReg 4 .h
  | .bit_4_L => .bitReg 4 .l
  | .bit_4_atHL => .bitInd 4
  | .bit_4_A => .bitReg 4 .a
  | .bit_5_B => .bitReg 5 .b
  | .bit_5_C => .bitReg 5 .c
  | .bit_5_D => .bitReg 5 .d
  | .bit_5_E => .bitReg 5 .e
  | .bit_5_H => .bitReg 5 .h
  | .bit_5_L => .bitReg 5 .l
  | .bit_5_atHL => .bitInd 5
  | .bit_5_A => .bitReg 5 .a
  | .bit_6_B => .bitReg 6 .b
  | .bit_6_C => .bitReg 6 .c
  | .bit_6_D => .bitReg 6 .d
  | .bit_6_E => .bitReg 6 .e
  | .bit_6_H => .bitReg 6 .h
  | .bit_6_L => .bitReg 6 .l
  | .bit_6_atHL => .bitInd 6
  | .bit_6_A => .bitReg 6 .a
  | .bit_7_B => .bitReg 7 .b
  | .bit_7_C => .bitReg 7 .c
  | .bit_7_D => .bitReg 7 .d
  | .bit_7_E => .bitReg 7 .e
  | .bit_7_H => .bitReg 7 .h
  | .bit_7_L => .bitReg 7 .l
  | .bit_7_atHL => .bitInd 7
  | .bit_7_A => .bitReg 7 .a

end Sys2Proof
end

