-- ==== Sys2Proof/Safety.lean ====
section
/-! DEFINITION. The terms of the claims: what an instruction leaves unchanged, what a store does as a reader of memory sees it, the
effect of the stack and of the ALU forms, the invariant of the machine, a safe run. They are predicates over reads of the state, and no
step uses them. -/

namespace Sys2Proof.Machine

/-! ## Frames -/

/-- Every 8-bit operand register outside a list is unchanged. -/
def KeepsRegs (written : List Reg) (s t : State) : Prop := ∀ r, r ∉ written → t.reg r = s.reg r

/-- Every flag is unchanged. -/
def KeepsFlags (s t : State) : Prop := ∀ f, t.cpu.flags.get f = s.cpu.flags.get f

/-- SP is unchanged. -/
def KeepsSp (s t : State) : Prop := t.cpu.sp = s.cpu.sp

/-- PC is unchanged. -/
def KeepsPc (s t : State) : Prop := t.cpu.pc = s.cpu.pc

/-- The interrupt-enable state is unchanged (10_state.md R30). -/
def KeepsInterrupts (s t : State) : Prop := t.cpu.ime = s.cpu.ime ∧ t.cpu.eiDelay = s.cpu.eiDelay

/-- Every byte of memory reads as before. -/
def KeepsMemory (s t : State) : Prop := ∀ b : Word, t.memRead b = s.memRead b

/-- The PPU, the APU, the samples and the configuration are unchanged. -/
def KeepsDevices (s t : State) : Prop := t.ppu = s.ppu ∧ t.apu = s.apu ∧ t.samples = s.samples ∧ t.cfg = s.cfg

/-- Nothing but registers of the list and the flags may differ. -/
structure OnlyRegsAndFlags (written : List Reg) (s t : State) : Prop where
  regs : KeepsRegs written s t
  sp : KeepsSp s t
  pc : KeepsPc s t
  interrupts : KeepsInterrupts s t
  memory : KeepsMemory s t
  devices : KeepsDevices s t

/-- Nothing but registers of the list may differ. -/
structure OnlyRegs (written : List Reg) (s t : State) : Prop extends OnlyRegsAndFlags written s t where
  flags : KeepsFlags s t

/-- The halves of a 16-bit operand; SP has none. -/
def pairHalves : Pair → List Reg
  | .bc => [.b, .c]
  | .de => [.d, .e]
  | .hl => [.h, .l]
  | .sp => []

/-- Nothing but a 16-bit operand may differ. -/
structure OnlyPair (p : Pair) (s t : State) : Prop where
  regs : KeepsRegs (pairHalves p) s t
  flags : KeepsFlags s t
  sp : p ≠ .sp → KeepsSp s t
  pc : KeepsPc s t
  interrupts : KeepsInterrupts s t
  memory : KeepsMemory s t
  devices : KeepsDevices s t

/-- Nothing but PC may differ. -/
structure OnlyPc (s t : State) : Prop where
  regs : KeepsRegs [] s t
  flags : KeepsFlags s t
  sp : KeepsSp s t
  interrupts : KeepsInterrupts s t
  memory : KeepsMemory s t
  devices : KeepsDevices s t

/-- The four flags have these values. -/
def FlagsAre (t : State) (z n h c : Bool) : Prop :=
  t.cpu.flags.get .z = z ∧ t.cpu.flags.get .n = n ∧ t.cpu.flags.get .h = h ∧ t.cpu.flags.get .c = c

/-! ## The cycle count -/

/-- The machine runs with the cycle table of the rules (00_scope.md R5, CYCLES). -/
def StandardCycles (s : State) : Prop := s.cfg.cycleOverrides = []

/-- With the cycle table of the rules, the instruction reports this count (70_reset_and_hazards.md R370). -/
def Reports (n : Nat) (s t : State) : Prop := StandardCycles s → t.cycles = n

/-! ## Stores -/

/-- The bytes that a `MemWrite` to `a` may change beside `a`: with DMA enabled, a write to 0xFF46 fills 0xFE00 to 0xFE9F
(20_memory.md R55). -/
def State.dmaTouches (s : State) (a b : Word) : Prop :=
  a = 0xFF46 ∧ s.cfg.dmaEnabled = true ∧ 0xFE00 ≤ b.toNat ∧ b.toNat ≤ 0xFE9F

/-- The memory, palette and devices after one `MemWrite(a, 1, v)`, said through reads (20_memory.md R52, R54, R55; 61_ppu.md R303). -/
structure Stored (a : Word) (v : Byte) (s t : State) : Prop where
  /-- the byte is there -/
  byte : t.memRead a = v
  /-- no other byte changes but the destination of a DMA copy -/
  outside : ∀ b, b ≠ a → ¬ s.dmaTouches a b → t.memRead b = s.memRead b
  /-- the DMA copy, which sees the byte just stored -/
  copied : a = 0xFF46 → s.cfg.dmaEnabled = true → ∀ i, i < 160 →
    t.memRead (BitVec.ofNat 16 (0xFE00 + i)) =
      if v.toNat * 256 + i = 0xFF46 then v else s.memRead (BitVec.ofNat 16 (v.toNat * 256 + i))
  /-- a store to BGP sets entry i of the palette to bits 2i+1..2i -/
  paletteSet : a = 0xFF47 → ∀ i : Fin 4, (t.ppu.palette.shade i).code.val = v.toNat / 4 ^ i.val % 4
  paletteKept : a ≠ 0xFF47 → t.ppu.palette = s.ppu.palette
  acc : t.ppu.acc = s.ppu.acc
  framebuffer : t.ppu.fb = s.ppu.fb
  apu : t.apu = s.apu
  samples : t.samples = s.samples
  config : t.cfg = s.cfg

/-- Two `MemWrite`s, one after the other. -/
def StoredTwice (a : Word) (v : Byte) (b : Word) (w : Byte) (s t : State) : Prop := ∃ m, Stored a v s m ∧ Stored b w m t

/-- The bytes outside two stored bytes, and outside a DMA copy that one of the stores starts, read as before. -/
def KeepsMemoryOutside (a b : Word) (s t : State) : Prop :=
  ∀ d, d ≠ a → d ≠ b → ¬ s.dmaTouches a d → ¬ s.dmaTouches b d → t.memRead d = s.memRead d

/-- Nothing of the CPU may differ but registers of the list and the flags. -/
structure KeepsCpu (written : List Reg) (s t : State) : Prop where
  regs : KeepsRegs written s t
  sp : KeepsSp s t
  pc : KeepsPc s t
  interrupts : KeepsInterrupts s t

/-- A word pushed: SP is down by 2, the high byte is at the new SP and the low byte above it, each stored by a `MemWrite`, the high byte
first (20_memory.md R57). -/
structure Pushed (w : Word) (s t : State) : Prop where
  sp : t.cpu.sp = s.cpu.sp - 2
  high : (t.memRead (s.cpu.sp - 2)).toNat = w.toNat / 256
  low : (t.memRead (s.cpu.sp - 2 + 1)).toNat = w.toNat % 256
  outside : KeepsMemoryOutside (s.cpu.sp - 2) (s.cpu.sp - 2 + 1) s t
  stores : StoredTwice (s.cpu.sp - 2) (BitVec.ofNat 8 (w.toNat / 256)) (s.cpu.sp - 2 + 1) (BitVec.ofNat 8 (w.toNat % 256)) s t

/-- The value that a pop reads: the byte at SP is the high byte (20_memory.md R58). -/
def State.popped (s : State) : Nat := (s.memRead s.cpu.sp).toNat * 256 + (s.memRead (s.cpu.sp + 1)).toNat

/-! ## The forms of the 8-bit ALU -/

/-- The code of an 8-bit register in an opcode (30_encoding.md R82). -/
def regCode : Reg → Nat
  | .b => 0
  | .c => 1
  | .d => 2
  | .e => 3
  | .h => 4
  | .l => 5
  | .a => 7

/-- An ALU operation has an effect in each of its three forms, with the value the form gives, and reports the count of the form
(41_arith.md R161). -/
def InEveryAluForm (op : Alu) (regCount memCount immCount : Nat) (effect : Byte → State → State → Prop) : Prop :=
  (∀ r s, ∃ t, exec (Form.aluReg op r).instr s = .next t ∧ effect (s.reg r) s t ∧ Reports regCount s t) ∧
  (∀ s, ∃ t, exec (Form.aluInd op).instr s = .next t ∧ effect (s.memRead s.hl) s t ∧ Reports memCount s t) ∧
  (∀ n s, ∃ t, exec (Form.aluImm op n).instr s = .next t ∧ effect n s t ∧ Reports immCount s t)

/-- The opcodes of the three forms of an ALU operation (30_encoding.md R90). -/
def AluOpcodes (op : Alu) (regBase ind imm : Nat) : Prop :=
  (∀ r, encode (Form.aluReg op r).instr = [BitVec.ofNat 8 (regBase + regCode r)] ∧ (Form.aluReg op r).instr.size = 1) ∧
  (encode (Form.aluInd op).instr = [BitVec.ofNat 8 ind] ∧ (Form.aluInd op).instr.size = 1) ∧
  (∀ n, encode (Form.aluImm op n).instr = [BitVec.ofNat 8 imm, n] ∧ (Form.aluImm op n).instr.size = 2)

/-! ## The screen -/

/-- The shade of framebuffer pixel (x, y) (61_ppu.md R309). -/
def State.screen (s : State) (x : Fin 160) (y : Fin 144) : Shade := (s.ppu.fb.get y).get x

/-! ## Bytes in memory -/

/-- The bytes of a list stand in memory from an address on. -/
def BytesAt (m : Memory) (a : Nat) (bytes : List Byte) : Prop := ∀ k, k < bytes.length → m.read (a + k) = bytes.getD k 0

/-! ## The invariant -/

/-- The timers of an enabled channel lie within their reloads (62_apu.md R333 to R335). -/
structure Channel.Ok (ch : Channel) : Prop where
  chan : ch.enabled = true → 1 ≤ ch.chanTimer ∧ ch.chanTimer ≤ ch.chanReload
  period : ch.enabled = true → 0 < ch.periodReload → 1 ≤ ch.periodTimer ∧ ch.periodTimer ≤ ch.periodReload

/-- What every step keeps: the memory in canonical form, a well-formed configuration, the sample timer in 1..SAMPLE_PERIOD
(62_apu.md R330) and the channel timers within their reloads. -/
structure Inv (s : State) : Prop where
  memory : s.mem.wf
  config : s.cfg.wellFormed = true
  sampleTimer : 1 ≤ s.apu.sampleTimer ∧ s.apu.sampleTimer ≤ s.cfg.samplePeriod
  ch1 : s.apu.ch1.Ok
  ch2 : s.apu.ch2.Ok

/-! ## Runs -/

/-- A step that answers a next state. -/
def SafeStep (s : State) : Prop := ∃ t, step s = .next t

/-- A run of `n` steps, none of which stops: `trace 0` is the start and each state is the one the step before answers. -/
def RunOf (n : Nat) (trace : Nat → State) : Prop := ∀ k, k < n → step (trace k) = .next (trace (k + 1))

/-- The cycles that the first `n` steps of a run report. -/
def cyclesOfRun (trace : Nat → State) (n : Nat) : Nat := ((List.range n).map fun k => (trace (k + 1)).cycles).sum

/-- Two states that differ in nothing but the interrupt-enable state. -/
def SameButInterrupts (s t : State) : Prop :=
  t = { s with cpu := { s.cpu with ime := t.cpu.ime, eiDelay := t.cpu.eiDelay } }

/-- Two outcomes that differ in nothing but the interrupt-enable state. -/
def SameOutcomeButInterrupts : Host.Outcome State Fault Refusal → Host.Outcome State Fault Refusal → Prop
  | .next s, .next t => SameButInterrupts s t
  | .fault f, .fault g => f = g
  | .refused r, .refused q => r = q
  | _, _ => False

end Sys2Proof.Machine
end

