-- ==== Sys2Proof/Certificates/Slice0/Obligations.lean ====
section
/-! DEFINITION. The statements for the provers. Instruction statements name a row of the opcode table through `Form.instr`, which gives
the row of a form and its operands, so that one statement holds for every register, pair, condition, bit and immediate of the form. Inside
an instruction PC is already past it (10_state.md R28). Each statement about an instruction says that exec answers a next state in EVERY
state, what that state holds and what it keeps. `Reports n` is the count under the cycle table of the rules, the default of the parameter
CYCLES (00_scope.md R5); the figures are the spec's decision D4 of 92_eei_decisions.md, and where a statement names a decision, or opcode
bytes the spec marks as general knowledge, it rests on the spec's own choice (log entry 18). -/

open Sys2Proof Sys2Proof.Machine

/-! ## Instructions: loads -/

/-- 40_nop_load.md R120: NOP keeps everything and reports 4 cycles; the step that runs it still moves PC on by one and applies the EI
delay. The opcode byte is the spec's general knowledge (log entry 18). -/
def Obligations.NopKeepsEverything : Prop :=
  ∀ s, (∃ t, exec Form.nop.instr s = .next t ∧ OnlyRegs [] s t ∧ Reports 4 s t) ∧
    (∃ u, runInstr Form.nop.instr s = .next u ∧ u.cpu.pc = s.cpu.pc + 1 ∧ u.cpu.eiDelay.val = s.cpu.eiDelay.val - 1 ∧
      u.cpu.ime = (s.cpu.ime || decide (s.cpu.eiDelay = 1)) ∧ KeepsRegs [] s u ∧ KeepsFlags s u ∧ KeepsSp s u ∧ KeepsMemory s u ∧
      KeepsDevices s u) ∧
    encode Form.nop.instr = [0x00] ∧ Form.nop.instr.size = 1

/-- 40_nop_load.md R121, R122, R124: the loads of one register from a register, from the byte at HL and from an immediate. The load
through HL reads at the old HL, also when it overwrites a half of it. -/
def Obligations.LoadsIntoARegister : Prop :=
  ∀ (dst src : Reg) (n : Byte) (s : State),
    (∃ t, exec (Form.ldRegReg dst src).instr s = .next t ∧ t.reg dst = s.reg src ∧ OnlyRegs [dst] s t ∧ Reports 4 s t) ∧
    (∃ t, exec (Form.ldRegInd dst).instr s = .next t ∧ t.reg dst = s.memRead s.hl ∧ OnlyRegs [dst] s t ∧ Reports 8 s t) ∧
    (∃ t, exec (Form.ldRegImm dst n).instr s = .next t ∧ t.reg dst = n ∧ OnlyRegs [dst] s t ∧ Reports 8 s t)

/-- 40_nop_load.md R127, R133, R135, R137: the loads of A from memory through BC or DE, through the high page and from an absolute
address. -/
def Obligations.LoadsOfAFromMemory : Prop :=
  ∀ (p : IndPair) (n : Byte) (w : Word) (s : State),
    (∃ t, exec (Form.ldAPairInd p).instr s = .next t ∧ t.cpu.a = s.memRead (s.indPair p) ∧ OnlyRegs [.a] s t ∧ Reports 8 s t) ∧
    (∃ t, exec (Form.ldhAConst n).instr s = .next t ∧ t.cpu.a = s.memRead (highPage n) ∧ (highPage n).toNat = 0xFF00 + n.toNat ∧
      OnlyRegs [.a] s t ∧ Reports 12 s t) ∧
    (∃ t, exec Form.ldAHighReg.instr s = .next t ∧ t.cpu.a = s.memRead s.highReg ∧ s.highReg.toNat = 0xFF00 + s.cpu.c.toNat ∧
      OnlyRegs [.a] s t ∧ Reports 8 s t) ∧
    (∃ t, exec (Form.ldAAbs w).instr s = .next t ∧ t.cpu.a = s.memRead w ∧ OnlyRegs [.a] s t ∧ Reports 16 s t)

/-- 40_nop_load.md R123, R125, R126, R132, R134, R136: the byte stores. The address is the one the form computes, the store is a
`MemWrite` with its observers, and nothing else of the CPU changes. -/
def Obligations.ByteStores : Prop :=
  ∀ (r : Reg) (p : IndPair) (n : Byte) (w : Word) (s : State),
    (∃ t, exec (Form.ldIndReg r).instr s = .next t ∧ Stored s.hl (s.reg r) s t ∧ KeepsCpu [] s t ∧ KeepsFlags s t ∧ Reports 8 s t) ∧
    (∃ t, exec (Form.ldIndImm n).instr s = .next t ∧ Stored s.hl n s t ∧ KeepsCpu [] s t ∧ KeepsFlags s t ∧ Reports 12 s t) ∧
    (∃ t, exec (Form.ldPairIndA p).instr s = .next t ∧ Stored (s.indPair p) s.cpu.a s t ∧ KeepsCpu [] s t ∧ KeepsFlags s t ∧
      Reports 8 s t) ∧
    (∃ t, exec (Form.ldhConstA n).instr s = .next t ∧ Stored (highPage n) s.cpu.a s t ∧ KeepsCpu [] s t ∧ KeepsFlags s t ∧
      Reports 12 s t) ∧
    (∃ t, exec Form.ldHighRegA.instr s = .next t ∧ Stored s.highReg s.cpu.a s t ∧ KeepsCpu [] s t ∧ KeepsFlags s t ∧ Reports 8 s t) ∧
    (∃ t, exec (Form.ldAbsA w).instr s = .next t ∧ Stored w s.cpu.a s t ∧ KeepsCpu [] s t ∧ KeepsFlags s t ∧ Reports 16 s t)

/-- 70_reset_and_hazards.md R366: (HL+) and (HL-) move the byte at the old HL, then adjust HL. The only instructions with an adjusted
operand are these four, so none is adjusted before the transfer. HL wraps modulo 2^16 (decision D12). -/
def Obligations.PostAdjustAfterTransfer : Prop :=
  (∀ s,
    (∃ t, exec Form.ldIndIncA.instr s = .next t ∧ Stored s.hl s.cpu.a s t ∧ t.hl = s.hl + 1 ∧ KeepsCpu [.h, .l] s t ∧ KeepsFlags s t ∧
      Reports 8 s t) ∧
    (∃ t, exec Form.ldIndDecA.instr s = .next t ∧ Stored s.hl s.cpu.a s t ∧ t.hl = s.hl - 1 ∧ KeepsCpu [.h, .l] s t ∧ KeepsFlags s t ∧
      Reports 8 s t) ∧
    (∃ t, exec Form.ldAIndInc.instr s = .next t ∧ t.cpu.a = s.memRead s.hl ∧ t.hl = s.hl + 1 ∧ OnlyRegs [.a, .h, .l] s t ∧
      Reports 8 s t) ∧
    (∃ t, exec Form.ldAIndDec.instr s = .next t ∧ t.cpu.a = s.memRead s.hl ∧ t.hl = s.hl - 1 ∧ OnlyRegs [.a, .h, .l] s t ∧
      Reports 8 s t)) ∧
  (∀ i r adj, Arg.indirect r adj ∈ i.shape.args → adj ≠ .none →
    i = Form.ldIndIncA.instr ∨ i = Form.ldIndDecA.instr ∨ i = Form.ldAIndInc.instr ∨ i = Form.ldAIndDec.instr)

/-- 40_nop_load.md R138, R140: a 16-bit immediate into BC, DE, HL or SP, and HL into SP. -/
def Obligations.LoadsOfAPair : Prop :=
  ∀ (p : Pair) (w : Word) (s : State),
    (∃ t, exec (Form.ldPairImm p w).instr s = .next t ∧ t.pair p = w ∧ OnlyPair p s t ∧ Reports 12 s t) ∧
    (∃ t, exec Form.ldSpHl.instr s = .next t ∧ t.cpu.sp = s.hl ∧ OnlyPair .sp s t ∧ Reports 8 s t)

/-- 40_nop_load.md R139: LD (a16),SP stores the low byte of SP at the address and the high byte at the address above it, wrapping at
0xFFFF. The order is decision D10 of 92_eei_decisions.md. -/
def Obligations.StoreOfSp : Prop :=
  ∀ (w : Word) (s : State), ∃ t, exec (Form.ldAbsSp w).instr s = .next t ∧
    (t.memRead w).toNat = s.cpu.sp.toNat % 256 ∧ (t.memRead (w + 1)).toNat = s.cpu.sp.toNat / 256 ∧
    KeepsMemoryOutside w (w + 1) s t ∧
    StoredTwice w (BitVec.ofNat 8 (s.cpu.sp.toNat % 256)) (w + 1) (BitVec.ofNat 8 (s.cpu.sp.toNat / 256)) s t ∧
    KeepsCpu [] s t ∧ KeepsFlags s t ∧ Reports 20 s t

/-- 40_nop_load.md R141, 45_stack.md R233: LD HL,SP+e8 and ADD SP,e8 add the signed displacement modulo 2^16, clear Z and N, and take
H and C from the unsigned add of the displacement byte to the low byte of SP, whatever the sign (decision D8). -/
def Obligations.StackOffsetForms : Prop :=
  ∀ (e : Byte) (s : State),
    (∃ t, exec (Form.ldHlSpDisp e).instr s = .next t ∧ (t.hl.toNat : Int) = ((s.cpu.sp.toNat : Int) + e.toInt) % 65536 ∧
      FlagsAre t false false (decide (s.cpu.sp.toNat % 16 + e.toNat % 16 > 15)) (decide (s.cpu.sp.toNat % 256 + e.toNat > 255)) ∧
      OnlyRegsAndFlags [.h, .l] s t ∧ Reports 12 s t) ∧
    (∃ t, exec (Form.addSp e).instr s = .next t ∧ (t.cpu.sp.toNat : Int) = ((s.cpu.sp.toNat : Int) + e.toInt) % 65536 ∧
      FlagsAre t false false (decide (s.cpu.sp.toNat % 16 + e.toNat % 16 > 15)) (decide (s.cpu.sp.toNat % 256 + e.toNat > 255)) ∧
      KeepsRegs [] s t ∧ KeepsPc s t ∧ KeepsInterrupts s t ∧ KeepsMemory s t ∧ KeepsDevices s t ∧ Reports 16 s t)

/-! ## Instructions: arithmetic and logic -/

/-- 41_arith.md R162 to R166: ADD and ADC in every form. ADC counts the carry in the result, in H and in C. -/
def Obligations.AddAndAdc : Prop :=
  InEveryAluForm .add 4 8 8 (fun v s t =>
    t.cpu.a.toNat = (s.cpu.a.toNat + v.toNat) % 256 ∧
    FlagsAre t (decide (t.cpu.a = 0)) false (decide (s.cpu.a.toNat % 16 + v.toNat % 16 > 15)) (decide (s.cpu.a.toNat + v.toNat > 255)) ∧
    OnlyRegsAndFlags [.a] s t) ∧
  InEveryAluForm .adc 4 8 8 (fun v s t =>
    t.cpu.a.toNat = (s.cpu.a.toNat + v.toNat + (s.cpu.flags.get .c).toNat) % 256 ∧
    FlagsAre t (decide (t.cpu.a = 0)) false
      (decide (s.cpu.a.toNat % 16 + v.toNat % 16 + (s.cpu.flags.get .c).toNat > 15))
      (decide (s.cpu.a.toNat + v.toNat + (s.cpu.flags.get .c).toNat > 255)) ∧
    OnlyRegsAndFlags [.a] s t)

/-- 41_arith.md R167 to R169, R179 to R181: SUB and CP in every form. Z is set exactly when the operands are equal, H and C are the
borrows (decision D41); CP writes the flags only. -/
def Obligations.SubAndCp : Prop :=
  InEveryAluForm .sub 4 8 8 (fun v s t =>
    t.cpu.a.toNat = (256 + s.cpu.a.toNat - v.toNat) % 256 ∧
    FlagsAre t (decide (s.cpu.a = v)) true (decide (s.cpu.a.toNat % 16 < v.toNat % 16)) (decide (s.cpu.a.toNat < v.toNat)) ∧
    OnlyRegsAndFlags [.a] s t) ∧
  InEveryAluForm .cp 4 8 8 (fun v s t =>
    FlagsAre t (decide (s.cpu.a = v)) true (decide (s.cpu.a.toNat % 16 < v.toNat % 16)) (decide (s.cpu.a.toNat < v.toNat)) ∧
    OnlyRegsAndFlags [] s t)

/-- 41_arith.md R170 to R172: AND in every form, with its opcodes; every form reports 8 cycles. The opcode bytes are the spec's
general knowledge (log entry 18). -/
def Obligations.AndInEveryForm : Prop :=
  InEveryAluForm .and 8 8 8 (fun v s t =>
    (∀ k, t.cpu.a.getLsbD k = (s.cpu.a.getLsbD k && v.getLsbD k)) ∧ FlagsAre t (decide (t.cpu.a = 0)) false true false ∧
    OnlyRegsAndFlags [.a] s t) ∧
  AluOpcodes .and 0xA0 0xA6 0xE6

/-- 41_arith.md R173 to R178: XOR and OR in every form, with their opcodes; every form reports 4 cycles. The opcode bytes but 0xAF are
the spec's general knowledge (log entry 18). -/
def Obligations.XorAndOrInEveryForm : Prop :=
  InEveryAluForm .xor 4 4 4 (fun v s t =>
    (∀ k, t.cpu.a.getLsbD k = (s.cpu.a.getLsbD k ^^ v.getLsbD k)) ∧ FlagsAre t (decide (t.cpu.a = 0)) false false false ∧
    OnlyRegsAndFlags [.a] s t) ∧
  InEveryAluForm .or 4 4 4 (fun v s t =>
    (∀ k, t.cpu.a.getLsbD k = (s.cpu.a.getLsbD k || v.getLsbD k)) ∧ FlagsAre t (decide (t.cpu.a = 0)) false false false ∧
    OnlyRegsAndFlags [.a] s t) ∧
  AluOpcodes .xor 0xA8 0xAE 0xEE ∧ AluOpcodes .or 0xB0 0xB6 0xF6

/-- 41_arith.md R182: ADD HL,rr. Z keeps its value, also when the result is 0 (decision D7). -/
def Obligations.AddToHl : Prop :=
  ∀ (p : Pair) (s : State), ∃ t, exec (Form.addHl p).instr s = .next t ∧
    t.hl.toNat = (s.hl.toNat + (s.pair p).toNat) % 65536 ∧
    FlagsAre t (s.cpu.flags.get .z) false (decide (s.hl.toNat % 4096 + (s.pair p).toNat % 4096 > 4095))
      (decide (s.hl.toNat + (s.pair p).toNat > 65535)) ∧
    OnlyRegsAndFlags [.h, .l] s t ∧ Reports 8 s t

/-! ## Instructions: increment and decrement -/

/-- 42_incdec.md R190, R192: INC r and DEC r. C keeps its value. -/
def Obligations.IncAndDecRegister : Prop :=
  ∀ (r : Reg) (s : State),
    (∃ t, exec (Form.incReg r).instr s = .next t ∧ (t.reg r).toNat = ((s.reg r).toNat + 1) % 256 ∧
      FlagsAre t (decide (t.reg r = 0)) false (decide ((s.reg r).toNat % 16 = 15)) (s.cpu.flags.get .c) ∧
      OnlyRegsAndFlags [r] s t ∧ Reports 4 s t) ∧
    (∃ t, exec (Form.decReg r).instr s = .next t ∧ (t.reg r).toNat = ((s.reg r).toNat + 255) % 256 ∧
      FlagsAre t (decide (t.reg r = 0)) true (decide ((s.reg r).toNat % 16 = 0)) (s.cpu.flags.get .c) ∧
      OnlyRegsAndFlags [r] s t ∧ Reports 4 s t)

/-- 42_incdec.md R191, R193: INC (HL) and DEC (HL) store one more or one less than the byte at HL there, by a `MemWrite`. -/
def Obligations.IncAndDecMemory : Prop :=
  ∀ s : State,
    (∃ t, exec Form.incInd.instr s = .next t ∧ Stored s.hl (BitVec.ofNat 8 ((s.memRead s.hl).toNat + 1)) s t ∧
      FlagsAre t (decide ((s.memRead s.hl).toNat = 255)) false (decide ((s.memRead s.hl).toNat % 16 = 15)) (s.cpu.flags.get .c) ∧
      KeepsCpu [] s t ∧ Reports 12 s t) ∧
    (∃ t, exec Form.decInd.instr s = .next t ∧ Stored s.hl (BitVec.ofNat 8 ((s.memRead s.hl).toNat + 255)) s t ∧
      FlagsAre t (decide ((s.memRead s.hl).toNat = 1)) true (decide ((s.memRead s.hl).toNat % 16 = 0)) (s.cpu.flags.get .c) ∧
      KeepsCpu [] s t ∧ Reports 12 s t)

/-- 42_incdec.md R194, R195: INC rr and DEC rr wrap and write no flag (decisions D6, D12). -/
def Obligations.IncAndDecPair : Prop :=
  ∀ (p : Pair) (s : State),
    (∃ t, exec (Form.incPair p).instr s = .next t ∧ (t.pair p).toNat = ((s.pair p).toNat + 1) % 65536 ∧ OnlyPair p s t ∧
      Reports 8 s t) ∧
    (∃ t, exec (Form.decPair p).instr s = .next t ∧ (t.pair p).toNat = ((s.pair p).toNat + 65535) % 65536 ∧ OnlyPair p s t ∧
      Reports 8 s t)

/-! ## Instructions: bits and rotates -/

/-- 43_bit_rotate.md R200, R201: BIT sets Z exactly when the tested bit is clear, clears N, sets H, keeps C and writes nothing else. -/
def Obligations.BitTest : Prop :=
  ∀ (b : Fin 8) (r : Reg) (s : State),
    (∃ t, exec (Form.bitReg b r).instr s = .next t ∧
      FlagsAre t (decide ((s.reg r).toNat / 2 ^ b.val % 2 = 0)) false true (s.cpu.flags.get .c) ∧ OnlyRegsAndFlags [] s t ∧
      Reports 12 s t) ∧
    (∃ t, exec (Form.bitInd b).instr s = .next t ∧
      FlagsAre t (decide ((s.memRead s.hl).toNat / 2 ^ b.val % 2 = 0)) false true (s.cpu.flags.get .c) ∧ OnlyRegsAndFlags [] s t ∧
      Reports 12 s t)

/-- 43_bit_rotate.md R202, R203: RL r and RLA move the carry into bit 0 and bit 7 into the carry. RL sets Z from the result, RLA clears
it (decisions D2, D3, D4). -/
def Obligations.RotateLeftThroughCarry : Prop :=
  ∀ (r : Reg) (s : State),
    (∃ t, exec (Form.rlReg r).instr s = .next t ∧ (t.reg r).toNat = (2 * (s.reg r).toNat + (s.cpu.flags.get .c).toNat) % 256 ∧
      FlagsAre t (decide (t.reg r = 0)) false false (decide ((s.reg r).toNat ≥ 128)) ∧ OnlyRegsAndFlags [r] s t ∧ Reports 8 s t) ∧
    (∃ t, exec Form.rla.instr s = .next t ∧ t.cpu.a.toNat = (2 * s.cpu.a.toNat + (s.cpu.flags.get .c).toNat) % 256 ∧
      FlagsAre t false false false (decide (s.cpu.a.toNat ≥ 128)) ∧ OnlyRegsAndFlags [.a] s t ∧ Reports 4 s t)

/-! ## Instructions: control -/

/-- 44_control.md R210, R212, R214: JR e8 adds the signed displacement to the address of the next instruction, JP a16 goes to the
address, JP (HL) to the value of HL. Nothing else changes. -/
def Obligations.UnconditionalJumps : Prop :=
  ∀ (e : Byte) (w : Word) (s : State),
    (∃ t, exec (Form.jr e).instr s = .next t ∧ (t.cpu.pc.toNat : Int) = ((s.cpu.pc.toNat : Int) + e.toInt) % 65536 ∧ OnlyPc s t ∧
      Reports 12 s t) ∧
    (∃ t, exec (Form.jp w).instr s = .next t ∧ t.cpu.pc = w ∧ OnlyPc s t ∧ Reports 16 s t) ∧
    (∃ t, exec Form.jpHl.instr s = .next t ∧ t.cpu.pc = s.hl ∧ OnlyPc s t ∧ Reports 4 s t)

/-- 44_control.md R211, R213, 10_state.md R32: a conditional jump is taken exactly when its condition holds of the flags, and the count
tells which. -/
def Obligations.ConditionalJumps : Prop :=
  ∀ (cc : Cond) (e : Byte) (w : Word) (s : State),
    (s.cond .nz = !s.cpu.flags.get .z ∧ s.cond .z = s.cpu.flags.get .z ∧ s.cond .nc = !s.cpu.flags.get .c ∧
      s.cond .c = s.cpu.flags.get .c) ∧
    (∃ t, exec (Form.jrCond cc e).instr s = .next t ∧ OnlyPc s t ∧
      (s.cond cc = true → (t.cpu.pc.toNat : Int) = ((s.cpu.pc.toNat : Int) + e.toInt) % 65536 ∧ Reports 12 s t) ∧
      (s.cond cc = false → KeepsPc s t ∧ Reports 8 s t)) ∧
    (∃ t, exec (Form.jpCond cc w).instr s = .next t ∧ OnlyPc s t ∧
      (s.cond cc = true → t.cpu.pc = w ∧ Reports 16 s t) ∧ (s.cond cc = false → KeepsPc s t ∧ Reports 12 s t))

/-- 44_control.md R215, R216: CALL pushes the address of the next instruction, high byte at the lower address (decision D9), and jumps;
CALL cc does so when its condition holds and else changes nothing. -/
def Obligations.Calls : Prop :=
  ∀ (cc : Cond) (w : Word) (s : State),
    (∃ t, exec (Form.call w).instr s = .next t ∧ Pushed s.cpu.pc s t ∧ t.cpu.pc = w ∧ KeepsRegs [] s t ∧ KeepsFlags s t ∧
      KeepsInterrupts s t ∧ Reports 24 s t) ∧
    (∃ t, exec (Form.callCond cc w).instr s = .next t ∧ KeepsRegs [] s t ∧ KeepsFlags s t ∧ KeepsInterrupts s t ∧
      (s.cond cc = true → Pushed s.cpu.pc s t ∧ t.cpu.pc = w ∧ Reports 24 s t) ∧
      (s.cond cc = false → OnlyRegs [] s t ∧ Reports 12 s t))

/-- 44_control.md R217 to R219: the returns load PC with the word at SP, high byte at SP (decision D9), and move SP up by 2; RET cc does so
when its condition holds and else changes nothing; RETI also sets ime at once and leaves eiDelay (decisions D14, D52). -/
def Obligations.Returns : Prop :=
  ∀ (cc : Cond) (s : State),
    (∃ t, exec Form.ret.instr s = .next t ∧ t.cpu.pc.toNat = s.popped ∧ t.cpu.sp = s.cpu.sp + 2 ∧ KeepsRegs [] s t ∧ KeepsFlags s t ∧
      KeepsInterrupts s t ∧ KeepsMemory s t ∧ KeepsDevices s t ∧ Reports 16 s t) ∧
    (∃ t, exec (Form.retCond cc).instr s = .next t ∧ KeepsRegs [] s t ∧ KeepsFlags s t ∧ KeepsInterrupts s t ∧ KeepsMemory s t ∧
      KeepsDevices s t ∧
      (s.cond cc = true → t.cpu.pc.toNat = s.popped ∧ t.cpu.sp = s.cpu.sp + 2 ∧ Reports 20 s t) ∧
      (s.cond cc = false → KeepsPc s t ∧ KeepsSp s t ∧ Reports 8 s t)) ∧
    (∃ t, exec Form.reti.instr s = .next t ∧ t.cpu.pc.toNat = s.popped ∧ t.cpu.sp = s.cpu.sp + 2 ∧ t.cpu.ime = true ∧
      t.cpu.eiDelay = s.cpu.eiDelay ∧ KeepsRegs [] s t ∧ KeepsFlags s t ∧ KeepsMemory s t ∧ KeepsDevices s t ∧ Reports 16 s t)

/-! ## Instructions: the stack -/

/-- 45_stack.md R230: PUSH stores the pair, the first-named half at the lower address (decision D9). Pushing AF pushes F. -/
def Obligations.Pushes : Prop :=
  ∀ (q : StackPair) (s : State), ∃ t, exec (Form.push q).instr s = .next t ∧ Pushed (s.stackPair q) s t ∧
    KeepsRegs [] s t ∧ KeepsFlags s t ∧ KeepsPc s t ∧ KeepsInterrupts s t ∧ Reports 16 s t

/-- 45_stack.md R231, R232: POP loads the first-named half from the byte at SP and the other from the byte above it, and moves SP up by 2.
POP AF sets the four flags from bits 7 to 4 of that second byte and drops its low nibble (decision D11). -/
def Obligations.Pops : Prop :=
  ∀ s : State,
    (∃ t, exec (Form.pop .bc).instr s = .next t ∧ t.cpu.b = s.memRead s.cpu.sp ∧ t.cpu.c = s.memRead (s.cpu.sp + 1) ∧
      t.cpu.sp = s.cpu.sp + 2 ∧ KeepsRegs [.b, .c] s t ∧ KeepsFlags s t ∧ KeepsPc s t ∧ KeepsInterrupts s t ∧ KeepsMemory s t ∧
      KeepsDevices s t ∧ Reports 12 s t) ∧
    (∃ t, exec (Form.pop .de).instr s = .next t ∧ t.cpu.d = s.memRead s.cpu.sp ∧ t.cpu.e = s.memRead (s.cpu.sp + 1) ∧
      t.cpu.sp = s.cpu.sp + 2 ∧ KeepsRegs [.d, .e] s t ∧ KeepsFlags s t ∧ KeepsPc s t ∧ KeepsInterrupts s t ∧ KeepsMemory s t ∧
      KeepsDevices s t ∧ Reports 12 s t) ∧
    (∃ t, exec (Form.pop .hl).instr s = .next t ∧ t.cpu.h = s.memRead s.cpu.sp ∧ t.cpu.l = s.memRead (s.cpu.sp + 1) ∧
      t.cpu.sp = s.cpu.sp + 2 ∧ KeepsRegs [.h, .l] s t ∧ KeepsFlags s t ∧ KeepsPc s t ∧ KeepsInterrupts s t ∧ KeepsMemory s t ∧
      KeepsDevices s t ∧ Reports 12 s t) ∧
    (∃ t, exec (Form.pop .af).instr s = .next t ∧ t.cpu.a = s.memRead s.cpu.sp ∧
      FlagsAre t ((s.memRead (s.cpu.sp + 1)).getLsbD 7) ((s.memRead (s.cpu.sp + 1)).getLsbD 6)
        ((s.memRead (s.cpu.sp + 1)).getLsbD 5) ((s.memRead (s.cpu.sp + 1)).getLsbD 4) ∧
      t.cpu.sp = s.cpu.sp + 2 ∧ KeepsRegs [.a] s t ∧ KeepsPc s t ∧ KeepsInterrupts s t ∧ KeepsMemory s t ∧ KeepsDevices s t ∧
      Reports 12 s t)

/-! ## Instructions: miscellaneous -/

/-- 46_misc.md R240: CPL complements A, sets N and H, keeps Z and C. -/
def Obligations.ComplementOfA : Prop :=
  ∀ s : State, ∃ t, exec Form.cpl.instr s = .next t ∧ t.cpu.a.toNat = 255 - s.cpu.a.toNat ∧
    FlagsAre t (s.cpu.flags.get .z) true true (s.cpu.flags.get .c) ∧ OnlyRegsAndFlags [.a] s t ∧ Reports 4 s t

/-- 46_misc.md R241: SCF sets C, clears N and H, keeps Z; opcode 0x37 (the spec's general knowledge, log entry 18), one byte,
4 cycles. -/
def Obligations.SetCarryFlag : Prop :=
  (∀ s : State, ∃ t, exec Form.scf.instr s = .next t ∧ FlagsAre t (s.cpu.flags.get .z) false false true ∧
    OnlyRegsAndFlags [] s t ∧ Reports 4 s t) ∧
  encode Form.scf.instr = [0x37] ∧ Form.scf.instr.size = 1

/-- 46_misc.md R242, R243: EI schedules the enable and leaves ime; DI clears ime and any scheduled enable (decision D14). -/
def Obligations.EnableAndDisableInterrupts : Prop :=
  ∀ s : State,
    (∃ t, exec Form.ei.instr s = .next t ∧ t.cpu.eiDelay = 2 ∧ t.cpu.ime = s.cpu.ime ∧ KeepsRegs [] s t ∧ KeepsFlags s t ∧ KeepsSp s t ∧
      KeepsPc s t ∧ KeepsMemory s t ∧ KeepsDevices s t ∧ Reports 4 s t) ∧
    (∃ t, exec Form.di.instr s = .next t ∧ t.cpu.eiDelay = 0 ∧ t.cpu.ime = false ∧ KeepsRegs [] s t ∧ KeepsFlags s t ∧ KeepsSp s t ∧
      KeepsPc s t ∧ KeepsMemory s t ∧ KeepsDevices s t ∧ Reports 4 s t)

/-- 46_misc.md R244, R245: SWAP exchanges the nibbles of a register or of the byte at HL, sets Z from the result and clears N, H and C. -/
def Obligations.SwapNibbles : Prop :=
  ∀ (r : Reg) (s : State),
    (∃ t, exec (Form.swapReg r).instr s = .next t ∧ (t.reg r).toNat = (s.reg r).toNat % 16 * 16 + (s.reg r).toNat / 16 ∧
      FlagsAre t (decide (s.reg r = 0)) false false false ∧ OnlyRegsAndFlags [r] s t ∧ Reports 8 s t) ∧
    (∃ t, exec Form.swapInd.instr s = .next t ∧
      Stored s.hl (BitVec.ofNat 8 ((s.memRead s.hl).toNat % 16 * 16 + (s.memRead s.hl).toNat / 16)) s t ∧
      FlagsAre t (decide (s.memRead s.hl = 0)) false false false ∧ KeepsCpu [] s t ∧ Reports 16 s t)

/-! ## Registers, reset and memory -/

/-- 10_state.md R22: an 8-bit write other than to F reads back and keeps the other nine registers. -/
def Obligations.ByteRegisterWrite : Prop :=
  ∀ (r : Reg8) (v : Byte) (s : State), r ≠ .f →
    (s.setRegister8 r v).getRegister8 r = v ∧ (∀ q, q ≠ r → (s.setRegister8 r v).getRegister8 q = s.getRegister8 q) ∧
    (s.setRegister8 r v).getRegister16 .sp = s.getRegister16 .sp ∧ (s.setRegister8 r v).getRegister16 .pc = s.getRegister16 .pc

/-- 10_state.md R21, R23, R25: a pair reads as its first-named half times 256 plus the other, a 16-bit write sets both halves, a write of
AF or of F drops the low nibble of F (decision D11), and a write of SP or PC writes only that register. -/
def Obligations.PairRegisterAccess : Prop :=
  ∀ (w : Word) (v : Byte) (s : State),
    ((s.getRegister16 .bc).toNat = s.cpu.b.toNat * 256 + s.cpu.c.toNat ∧
      (s.getRegister16 .de).toNat = s.cpu.d.toNat * 256 + s.cpu.e.toNat ∧
      (s.getRegister16 .hl).toNat = s.cpu.h.toNat * 256 + s.cpu.l.toNat ∧ s.hl = s.getRegister16 .hl ∧
      (s.getRegister16 .af).toNat = s.cpu.a.toNat * 256 + (s.getRegister8 .f).toNat) ∧
    (∀ r, r ≠ .af → (s.setRegister16 r w).getRegister16 r = w) ∧ (s.setRegister16 .af w).getRegister16 .af = w &&& 0xFFF0 ∧
    (s.setRegister8 .f v).getRegister8 .f = v &&& 0xF0 ∧ (∀ q, q ≠ .f → (s.setRegister8 .f v).getRegister8 q = s.getRegister8 q) ∧
    (∀ q, (s.setRegister16 .sp w).getRegister8 q = s.getRegister8 q) ∧ (s.setRegister16 .sp w).cpu.pc = s.cpu.pc ∧
    (∀ q, (s.setRegister16 .pc w).getRegister8 q = s.getRegister8 q) ∧ (s.setRegister16 .pc w).cpu.sp = s.cpu.sp

/-- 10_state.md R24, R26: F holds Z, N, H and C in bits 7, 6, 5 and 4 and its low nibble is zero; a flag is read there, and a flag write
changes that bit of F only. -/
def Obligations.FlagsInF : Prop :=
  ∀ (s : State) (f : Flag) (v : Bool) (k : Nat),
    ((s.getRegister8 .f).getLsbD 7 = s.getFlag .z ∧ (s.getRegister8 .f).getLsbD 6 = s.getFlag .n ∧
      (s.getRegister8 .f).getLsbD 5 = s.getFlag .h ∧ (s.getRegister8 .f).getLsbD 4 = s.getFlag .c) ∧
    (k < 4 → (s.getRegister8 .f).getLsbD k = false) ∧
    (s.setFlag f v).getFlag f = v ∧ (∀ g, g ≠ f → (s.setFlag f v).getFlag g = s.getFlag g) ∧
    (k < 4 → ((s.setFlag f v).getRegister8 .f).getLsbD k = (s.getRegister8 .f).getLsbD k)

/-- 50_cpu_driver.md R258, 70_reset_and_hazards.md R360: construction lays the image at address 0 over zeroes and sets every other field
to its reset value; an image longer than 65536 bytes is refused. The values are those of decisions D14, D20, D26, D31, D34 and D38, and
of 10_state.md R33. The reset state of the model is the machine built with the default parameters and an empty image. -/
def Obligations.ConstructionResets : Prop :=
  (∀ (cfg : Config) (image : List Byte), image.length ≤ 65536 → ∃ t, construct cfg image = .next t ∧
    (∀ r, t.getRegister8 r = 0) ∧ t.cpu.sp = 0 ∧ t.cpu.pc = 0 ∧ t.cpu.ime = false ∧ t.cpu.eiDelay = 0 ∧
    (∀ a : Word, t.memRead a = image.getD a.toNat 0) ∧
    t.ppu.acc = 0 ∧ t.ppu.palette = ⟨.white, .lightGray, .darkGray, .black⟩ ∧
    (∀ x y, t.screen x y = .white) ∧
    t.apu.sampleTimer = cfg.clockRate / cfg.sampleRate.hertz ∧
    (t.apu.ch1 = ⟨false, 0, 0, 0, 0, 0, 0, 0⟩ ∧ t.apu.ch2 = ⟨false, 0, 0, 0, 0, 0, 0, 0⟩) ∧ t.samples = [] ∧ t.cfg = cfg) ∧
  (∀ (cfg : Config) (image : List Byte), 65536 < image.length → construct cfg image = .refused (.imageTooLong image.length)) ∧
  construct Config.standard [] = .next State.reset

/-- 20_memory.md R52, R54, R55, R63, 61_ppu.md R303: `MemWrite`, which every CPU store and `setMemoryAt` are, stores the byte and then runs
the observer of the address: the DMA copy (which sees the byte just stored) or the palette update (decisions D18, D19, D20). The CPU is
untouched. -/
def Obligations.MemWriteAndObservers : Prop :=
  ∀ (a : Word) (v : Byte) (s : State), Stored a v s (s.setMemoryAt a v) ∧ (s.setMemoryAt a v).cpu = s.cpu

/-- 20_memory.md R57, R58: a pop after a push, with no store in between, gives the word back and SP as it was, at every SP. -/
def Obligations.PopAfterPush : Prop :=
  ∀ (w : Word) (s : State), (s.push16 w).stackTop = w ∧ (s.push16 w).dropTop.cpu = s.cpu

/-- 50_cpu_driver.md R260, 20_memory.md R63: a memory slice has min(n, 65536 − a) bytes, byte k is the byte at a + k, and it does not
wrap. -/
def Obligations.MemorySliceClamps : Prop :=
  ∀ (a : Word) (n : Nat) (s : State), (s.getMemorySlice a n).length = min n (65536 - a.toNat) ∧
    ∀ k, k < (s.getMemorySlice a n).length → (s.getMemorySlice a n).getD k 0 = s.getMemoryAt (BitVec.ofNat 16 (a.toNat + k))

/-! ## Encoding and decoding -/

/-- 30_encoding.md R81 to R91: at every address where it fits, the bytes an instruction encodes to decode to that instruction, with every
operand value, whatever the other bytes of memory are. -/
def Obligations.EncodedInstructionDecodes : Prop :=
  ∀ (i : Instr) (a : Word) (m : Memory), i.fitsAt a = true → BytesAt m a.toNat (encode i) → decodeAt a m = .ok i

/-- 30_encoding.md R93: for every decoded instruction, the size from its category and arguments is the number of bytes the decode
consumed (it fits there, and any memory with those bytes decodes alike), and re-encoding gives back those bytes. -/
def Obligations.DecodedInstructionEncodesBack : Prop :=
  ∀ (i : Instr) (a : Word) (m : Memory), decodeAt a m = .ok i →
    i.shape.size = i.size ∧ (encode i).length = i.size ∧ i.fitsAt a = true ∧ BytesAt m a.toNat (encode i) ∧
    ∀ m', (∀ k, k < i.size → m'.read (a.toNat + k) = m.read (a.toNat + k)) → decodeAt a m' = .ok i

/-- 30_encoding.md R82, R90, R91: words written out bit by bit from the field tables decode to their instructions. The byte values
that section 8 of the document does not give are the spec's general knowledge (log entry 18). -/
def Obligations.WordsOfTheSpecDecode : Prop :=
  decodeBytes 0b00110001 [0xFE, 0xFF] = .ok (.ld_SP_d16 0xFFFE) ∧ decodeBytes 0b10101111 [] = .ok .xor_A ∧
  decodeBytes 0b00000101 [] = .ok .dec_B ∧ decodeBytes 0b11001101 [0x04, 0x00] = .ok (.call_a16 0x0004) ∧
  decodeBytes 0b11001011 [0b01111100] = .ok .bit_7_H ∧ decodeBytes 0b00100000 [0xFC] = .ok (.jr_NZ_e8 0xFC) ∧
  decodeBytes 0b11001011 [0b00110110] = .ok .swap_atHL ∧ decodeBytes 0b11110001 [] = .ok .pop_AF

/-- 30_encoding.md R87, R91: the bytes that are not admitted are exactly the 35 unprefixed and the 177 prefixed ones listed
(decisions D1, D2). -/
def Obligations.AdmittedOpcodes : Prop :=
  (∀ (op : Byte) (tl : List Byte), op ≠ 0xCB →
    (decodeBytes op tl = .unknownOpcode op ↔
      op.toNat ∈ [0x07, 0x0F, 0x10, 0x1F, 0x27, 0x3F, 0x76, 0x98, 0x99, 0x9A, 0x9B, 0x9C, 0x9D, 0x9E, 0x9F, 0xC7, 0xCF, 0xD3, 0xD7,
        0xDB, 0xDD, 0xDE, 0xDF, 0xE3, 0xE4, 0xE7, 0xEB, 0xEC, 0xED, 0xEF, 0xF4, 0xF7, 0xFC, 0xFD, 0xFF])) ∧
  (∀ (op : Byte) (tl : List Byte), decodeBytes 0xCB (op :: tl) = .unknownPrefixedOpcode op ↔
    op.toNat ≤ 0x0F ∨ op.toNat = 0x16 ∨ (0x18 ≤ op.toNat ∧ op.toNat ≤ 0x2F) ∨ (0x38 ≤ op.toNat ∧ op.toNat ≤ 0x3F) ∨
      0x80 ≤ op.toNat)

/-- 60_exceptions.md R280 to R283, R285, 30_encoding.md R85, R86: when a step stops, and with what, in the order of the decode
algorithm. With `op` the byte at PC and `op2` the one after it: OutOfRange for a prefix byte at 0xFFFF; UnknownPrefixedOpcode, with `op2`,
when no instruction is 0xCB and `op2`; UnknownOpcode when no instruction begins with `op`; OutOfRange when one does but its bytes pass
0xFFFF; and in every other case the step answers a next state. -/
def Obligations.WhenAStepFaults : Prop :=
  ∀ s : State,
    let a := s.cpu.pc
    let op := s.memRead a
    let op2 := s.mem.read (a.toNat + 1)
    (op = 0xCB → a.toNat = 0xFFFF → step s = .fault (.decodeError .outOfRange a op)) ∧
    (op = 0xCB → a.toNat < 0xFFFF → (∀ i, encode i ≠ [0xCB, op2]) → step s = .fault (.decodeError .unknownPrefixedOpcode a op2)) ∧
    (op ≠ 0xCB → (∀ i, (encode i).head? ≠ some op) → step s = .fault (.decodeError .unknownOpcode a op)) ∧
    (op ≠ 0xCB → ∀ i, (encode i).head? = some op → a.toNat + i.size > 0x10000 → step s = .fault (.decodeError .outOfRange a op)) ∧
    (∀ i, (encode i).head? = some op → (op = 0xCB → encode i = [0xCB, op2]) → a.toNat + i.size ≤ 0x10000 → SafeStep s)

/-! ## The step -/

/-- 50_cpu_driver.md R250 to R252: when the bytes at PC are those of an instruction, the step moves PC past them, runs the instruction,
applies the EI delay, and then ticks the PPU and the APU by the count the instruction reported. -/
def Obligations.StepRunsTheDecodedInstruction : Prop :=
  ∀ (i : Instr) (s : State), i.fitsAt s.cpu.pc = true → BytesAt s.mem s.cpu.pc.toNat (encode i) →
    ∃ t u : State,
      exec i { s with cpu := { s.cpu with pc := s.cpu.pc + BitVec.ofNat 16 i.size } } = .next t ∧
      u = (match t.cpu.eiDelay with
        | 0 => t
        | 1 => { t with cpu := { t.cpu with eiDelay := 0, ime := true } }
        | 2 => { t with cpu := { t.cpu with eiDelay := 1 } }) ∧
      step s = .next ((u.ppuTick t.cycles).apuTick t.cycles)

/-- 60_exceptions.md R289: every instruction may run in every state, and every address is accessible: what A is stored at an address
reads back from it, and no access faults. -/
def Obligations.NothingIsPrivileged : Prop :=
  (∀ (i : Instr) (s : State), ∃ t, exec i s = .next t) ∧
  (∀ (w : Word) (s : State), ∃ t u, exec (.ld_atA16_A w) s = .next t ∧ t.memRead w = s.cpu.a ∧
    exec (.ld_A_atA16 w) t = .next u ∧ u.cpu.a = s.cpu.a)

/-- 60_exceptions.md R287: after a fault the machine is as it was before the failing step; every retry fails identically, however often;
and it depends on PC and memory alone, so that only a host change of those lets a later step decode something else. A frame tick that
meets the fault in its first step leaves the state likewise. -/
def Obligations.FaultLeavesTheState : Prop :=
  ∀ (s : State) (f : Fault), step s = .fault f →
    (∀ n : Nat, stepOnce ((fun u => (stepOnce u).2)^[n] s) = (.decodeError f, s)) ∧
    (∀ (budget : Nat) (breakpoints : List Word), frameTick s budget breakpoints = (.decodeError f, s)) ∧
    (∀ u : State, u.cpu.pc = s.cpu.pc → u.mem = s.mem → step u = .fault f)

/-- 46_misc.md R242, R243, 50_cpu_driver.md R251, 70_reset_and_hazards.md R365: the step of an EI leaves ime as it was; the next step sets
it, unless that step runs a DI, which cancels the enable, or an EI, which postpones it (decision D14). -/
def Obligations.EiTakesEffectOneStepLater : Prop :=
  ∀ s t : State, decodeAt s.cpu.pc s.mem = .ok .ei → step s = .next t →
    t.cpu.ime = s.cpu.ime ∧ t.cpu.eiDelay = 1 ∧
    ∀ (i : Instr) (u : State), decodeAt t.cpu.pc t.mem = .ok i → step t = .next u →
      (i = .di → u.cpu.ime = false ∧ u.cpu.eiDelay = 0) ∧ (i = .ei → u.cpu.ime = s.cpu.ime ∧ u.cpu.eiDelay = 1) ∧
      (i ≠ .di → i ≠ .ei → u.cpu.ime = true ∧ u.cpu.eiDelay = 0)

/-- 60_exceptions.md R288: nothing reads the interrupt-enable state: two machines that differ in it alone take steps that differ in it
alone. -/
def Obligations.InterruptStateIsNeverObserved : Prop :=
  ∀ s t : State, SameButInterrupts s t → SameOutcomeButInterrupts (step s) (step t)

/-! ## The invariant -/

/-- Every step keeps the invariant and the configuration: canonical memory (20_memory.md R50), the sample timer in 1..SAMPLE_PERIOD
(62_apu.md R330), and the timers of an enabled channel within their reloads (62_apu.md R333). -/
def Obligations.StepKeepsTheInvariant : Prop :=
  ∀ s t : State, Inv s → step s = .next t → Inv t ∧ t.cfg = s.cfg

/-- The reset state, and every machine built with a well-formed configuration, meets the invariant (50_cpu_driver.md R258). -/
def Obligations.BuiltMachineMeetsTheInvariant : Prop :=
  Inv State.reset ∧
  ∀ (cfg : Config) (image : List Byte) (t : State), cfg.wellFormed = true → construct cfg image = .next t → Inv t

/-! ## The PPU -/

/-- 61_ppu.md R304, R305: with the LCD off a tick sets LY to 0 and changes nothing else; with it on, the accumulator takes the cycles modulo
456 and LY moves on by one, modulo 154, for each 456 of them. No other byte changes and no other component (decisions D24, D25). -/
def Obligations.PpuTickCountsLines : Prop :=
  ∀ (s : State) (n : Nat),
    ((s.ppuTick n).cpu = s.cpu ∧ (s.ppuTick n).apu = s.apu ∧ (s.ppuTick n).samples = s.samples ∧ (s.ppuTick n).cfg = s.cfg ∧
      (s.ppuTick n).ppu.palette = s.ppu.palette ∧ ∀ b, b ≠ 0xFF44 → (s.ppuTick n).memRead b = s.memRead b) ∧
    ((s.memRead 0xFF40).getLsbD 7 = false → (s.ppuTick n).ppu = s.ppu ∧ (s.ppuTick n).memRead 0xFF44 = 0) ∧
    ((s.memRead 0xFF40).getLsbD 7 = true →
      (s.ppuTick n).ppu.acc.val = (s.ppu.acc.val + n) % 456 ∧
      ((s.ppuTick n).memRead 0xFF44).toNat =
        if s.ppu.acc.val + n < 456 then (s.memRead 0xFF44).toNat
        else ((s.memRead 0xFF44).toNat + (s.ppu.acc.val + n) / 456) % 154)

/-- 61_ppu.md R305 to R308: with the LCD on, a tick that crosses 456 once to the new line n renders row n − 1 when n is in 1..144, each
pixel the palette's shade of the two bitplane bits of its tile, and no other row; a tick that does not cross renders nothing (decisions
D17, D22, D23, D27). -/
def Obligations.CrossingRendersItsRow : Prop :=
  ∀ (s : State) (n : Nat), (s.memRead 0xFF40).getLsbD 7 = true → s.ppu.acc.val + n < 912 →
    let line := ((s.memRead 0xFF44).toNat + 1) % 154
    let wrap := s.cfg.bgWrap.modulus
    ∀ (y : Fin 144) (x : Fin 160),
      let bx := (x.val + (s.memRead 0xFF43).toNat) % wrap
      let row := (y.val + (s.memRead 0xFF42).toNat) % wrap
      let tile := (s.mem.read (0x9800 + row / 8 * 32 + bx / 8)).toNat
      let lowBits := (s.mem.read (0x8000 + 16 * tile + 2 * (row % 8))).toNat
      let highBits := (s.mem.read (0x8000 + 16 * tile + 2 * (row % 8) + 1)).toNat
      let bit := 7 - bx % 8
      (s.ppuTick n).screen x y =
        if 456 ≤ s.ppu.acc.val + n ∧ line = y.val + 1
        then s.ppu.palette.shade (Fin.ofNat 4 (lowBits / 2 ^ bit % 2 + 2 * (highBits / 2 ^ bit % 2)))
        else s.screen x y

/-- 61_ppu.md R304, R305: how the cycles are split into ticks makes no difference to the PPU: two ticks are one tick of their sum. -/
def Obligations.PpuTicksAddUp : Prop :=
  ∀ (s : State) (m n : Nat), (s.ppuTick m).ppuTick n = s.ppuTick (m + n)

/-- 61_ppu.md R310, R307: `getVramData` has 65536 pixels, and in every state pixel (bx, row) is the palette's shade of the two bitplane bits
of its tile, whatever the scroll registers, LY and LCDC hold (decisions D17, D22, D27). So under the default palette it is all White over
zeroed memory, and with map entry 0 naming tile 1, whose 16 bytes are 0xFF, Black in the 8×8 region at the top left and White elsewhere
(decision D20). -/
def Obligations.BackgroundViewOfATile : Prop :=
  ∀ s : State,
    s.getVramData.length = 65536 ∧
    (∀ bx row : Fin 256,
      let tile := (s.mem.read (0x9800 + row.val / 8 * 32 + bx.val / 8)).toNat
      let lowBits := (s.mem.read (0x8000 + 16 * tile + 2 * (row.val % 8))).toNat
      let highBits := (s.mem.read (0x8000 + 16 * tile + 2 * (row.val % 8) + 1)).toNat
      let bit := 7 - bx.val % 8
      s.getVramData[row.val * 256 + bx.val]? =
        some (s.ppu.palette.shade (Fin.ofNat 4 (lowBits / 2 ^ bit % 2 + 2 * (highBits / 2 ^ bit % 2))))) ∧
    (s.ppu.palette = ⟨.white, .lightGray, .darkGray, .black⟩ →
      ((∀ a : Nat, s.mem.read a = 0) → ∀ bx row : Fin 256, s.getVramData[row.val * 256 + bx.val]? = some .white) ∧
      ((∀ a : Nat, s.mem.read a = if a = 0x9800 then 1 else if 0x8010 ≤ a ∧ a ≤ 0x801F then 0xFF else 0) →
        ∀ bx row : Fin 256,
          s.getVramData[row.val * 256 + bx.val]? = some (if bx.val < 8 ∧ row.val < 8 then .black else .white)))

/-! ## The APU -/

/-- 61_ppu.md R304, 62_apu.md R332, 50_cpu_driver.md R252: after every step no trigger bit is set, and LY is 0 while the LCD is off
(decisions D24, D34, D35). -/
def Obligations.DeviceRegistersAfterAStep : Prop :=
  ∀ s t : State, step s = .next t →
    (t.memRead 0xFF14).getLsbD 7 = false ∧ (t.memRead 0xFF19).getLsbD 7 = false ∧
    ((t.memRead 0xFF40).getLsbD 7 = false → t.memRead 0xFF44 = 0)

/-- 62_apu.md R333: `countDown` is the loop of the rule: it takes the cycles off the timer and adds the reload once for each event, as often
as it takes to be above 0 and no oftener (decision D31). -/
def Obligations.CountDownIsTheLoop : Prop :=
  ∀ t reload n : Nat, 1 ≤ reload →
    let r := countDown t reload n
    1 ≤ r.1 ∧ (r.1 : Int) = (t : Int) - n + r.2 * reload ∧ (r.2 = 0 ∨ r.1 ≤ reload)

/-- 62_apu.md R333: the events do not depend on how the cycles are split into ticks. -/
def Obligations.CountDownAddsUp : Prop :=
  ∀ t reload m n : Nat, 1 ≤ reload →
    let first := countDown t reload m
    let second := countDown first.1 reload n
    countDown t reload (m + n) = (second.1, first.2 + second.2)

/-- 62_apu.md R331, R332: a set trigger bit starts its channel again from its four registers and is cleared; a clear one changes nothing.
No other byte, the other channel and nothing else changes (decisions D30, D34). -/
def Obligations.TriggerStartsTheChannel : Prop :=
  (ChannelId.one.nr1 = 0xFF11 ∧ ChannelId.one.nr2 = 0xFF12 ∧ ChannelId.one.nr3 = 0xFF13 ∧ ChannelId.one.nr4 = 0xFF14 ∧
    ChannelId.two.nr1 = 0xFF16 ∧ ChannelId.two.nr2 = 0xFF17 ∧ ChannelId.two.nr3 = 0xFF18 ∧ ChannelId.two.nr4 = 0xFF19) ∧
  ∀ (c : ChannelId) (s : State),
    let t := s.trigger c
    let ch := t.channel c
    let f := (s.memRead c.nr4).toNat % 8 * 256 + (s.memRead c.nr3).toNat
    ((s.memRead c.nr4).getLsbD 7 = true →
      ch.enabled = true ∧ ch.volume.val = (s.memRead c.nr2).toNat / 16 ∧ ch.duty.val = (s.memRead c.nr1).toNat / 64 ∧ ch.dutyPos = 0 ∧
      ch.chanReload = (2048 - f) * s.cfg.dutyStepScale ∧ ch.chanTimer = ch.chanReload ∧
      ch.periodReload = (s.memRead c.nr2).toNat % 8 * s.cfg.envelopeStepCycles ∧ ch.periodTimer = ch.periodReload ∧
      (t.memRead c.nr4).toNat = (s.memRead c.nr4).toNat % 128) ∧
    ((s.memRead c.nr4).getLsbD 7 = false → t = s) ∧
    (∀ d, d ≠ c → t.channel d = s.channel d) ∧ (∀ b, b ≠ c.nr4 → t.memRead b = s.memRead b) ∧
    t.cpu = s.cpu ∧ t.ppu = s.ppu ∧ t.apu.sampleTimer = s.apu.sampleTimer ∧ t.samples = s.samples ∧ t.cfg = s.cfg

/-- 62_apu.md R334, R335: a disabled channel does not move. An enabled one moves its duty position on, modulo 8, by the events of its
channel timer; if it has a period, its volume goes down by the events of its period timer, not below 0, and a volume that reaches 0
disables it. -/
def Obligations.ChannelAdvances : Prop :=
  ∀ (ch : Channel) (n : Nat),
    let t := ch.advance n
    let d := countDown ch.chanTimer ch.chanReload n
    let p := countDown ch.periodTimer ch.periodReload n
    (ch.enabled = false → t = ch) ∧
    (ch.enabled = true →
      t.chanTimer = d.1 ∧ t.dutyPos.val = (ch.dutyPos.val + d.2) % 8 ∧ t.duty = ch.duty ∧ t.chanReload = ch.chanReload ∧
      t.periodReload = ch.periodReload ∧
      (ch.periodReload = 0 → t.periodTimer = ch.periodTimer ∧ t.volume = ch.volume ∧ t.enabled = true) ∧
      (0 < ch.periodReload → t.periodTimer = p.1 ∧ t.volume.val = ch.volume.val - p.2 ∧
        t.enabled = (decide (p.2 = 0) || decide (p.2 < ch.volume.val))))

/-- 62_apu.md R336 to R339: an APU tick looks at the triggers, channel 1 first, advances both channels, and delivers one sample for each
event of the sample timer, each the sum of volume times duty value over the enabled channels as they are after the tick (decisions D31,
D32, D33). -/
def Obligations.SamplesOfATick : Prop :=
  ∀ (s : State) (n : Nat),
    let t := s.apuTick n
    let triggered := (s.trigger .one).trigger .two
    let r := countDown s.apu.sampleTimer s.cfg.samplePeriod n
    let out : Channel → Nat := fun ch =>
      if ch.enabled then ch.volume.val * (([[0, 0, 0, 0, 0, 0, 0, 1], [1, 0, 0, 0, 0, 0, 0, 1], [1, 0, 0, 0, 0, 1, 1, 1],
        [0, 1, 1, 1, 1, 1, 1, 0]] : List (List Nat)).getD ch.duty.val []).getD ch.dutyPos.val 0 else 0
    t.apu.ch1 = triggered.apu.ch1.advance n ∧ t.apu.ch2 = triggered.apu.ch2.advance n ∧ t.apu.sampleTimer = r.1 ∧
    t.samples = s.samples ++ List.replicate r.2 (BitVec.ofNat 16 (out t.apu.ch1 + out t.apu.ch2)) ∧
    t.mem = triggered.mem ∧ t.cpu = s.cpu ∧ t.ppu = s.ppu ∧ t.cfg = s.cfg

/-- 62_apu.md R341: from a trigger, exactly one channel period moves the duty position on by one step and no shorter time does; exactly one
envelope period lowers a volume of at least 1 by one, and no shorter time does. -/
def Obligations.OneFullPeriod : Prop :=
  ∀ (c : ChannelId) (s : State), 1 ≤ s.cfg.dutyStepScale →
    let ch := s.triggered c
    (ch.advance ch.chanReload).dutyPos = 1 ∧ (∀ n, n < ch.chanReload → (ch.advance n).dutyPos = 0) ∧
    (1 ≤ ch.periodReload → 1 ≤ ch.volume.val →
      (ch.advance ch.periodReload).volume.val = ch.volume.val - 1 ∧ ∀ n, n < ch.periodReload → (ch.advance n).volume = ch.volume)

/-! ## The driver -/

/-- 50_cpu_driver.md R255: a frame tick always ends. With a well-formed configuration every instruction takes at least 4 cycles (the model's
condition on the parameter CYCLES, log entry 3), so that the floor(budget / 4) + 1 steps the driver allows itself (log entry 8) are never
used up without an outcome; and an outcome that is a fault carries a DecodeError. -/
def Obligations.FrameTickEnds : Prop :=
  ∀ (s : State) (budget : Nat) (breakpoints : List Word), s.cfg.wellFormed = true →
    (frameTick s budget breakpoints).1 = .hitBreakpoint ∨ (frameTick s budget breakpoints).1 = .frameComplete ∨
    ∃ kind addr byte, (frameTick s budget breakpoints).1 = .decodeError (.decodeError kind addr byte)

/-- 50_cpu_driver.md R254, R257: if a run of k steps, k ≥ 1, ends with PC at a breakpoint, and after no earlier step of it PC was at a
breakpoint or the cycles exceeded the budget, then the tick returns HitBreakpoint in exactly the state after step k: it never overshoots.
If instead the cycles first exceed the budget after step k and PC met no breakpoint, it returns FrameComplete there;
and if the cycles do not exceed the budget, PC met no breakpoint and the step after step k faults, it returns that DecodeError and the
state after step k (R256). The condition on the configuration is the model's (log entries 3, 8). -/
def Obligations.BreakpointIsNotOvershot : Prop :=
  ∀ (k budget : Nat) (breakpoints : List Word) (trace : Nat → State), 1 ≤ k → (trace 0).cfg.wellFormed = true → RunOf k trace →
    (∀ j, 1 ≤ j → j < k → (trace j).cpu.pc ∉ breakpoints ∧ cyclesOfRun trace j ≤ budget) →
    ((trace k).cpu.pc ∈ breakpoints → frameTick (trace 0) budget breakpoints = (.hitBreakpoint, trace k)) ∧
    ((trace k).cpu.pc ∉ breakpoints → budget < cyclesOfRun trace k →
      frameTick (trace 0) budget breakpoints = (.frameComplete, trace k)) ∧
    ((trace k).cpu.pc ∉ breakpoints → cyclesOfRun trace k ≤ budget → ∀ f, step (trace k) = .fault f →
      frameTick (trace 0) budget breakpoints = (.decodeError f, trace k))
end

