-- ==== Sys2Proof/Laws/State.lean ====
section
/-! SUPPORT. One lemma for each field under each update, so that no later proof unfolds a record update. The updates of a register by
label read back through `State.reg`. -/

namespace Sys2Proof.Machine

/-! ### setReg -/

@[simp] theorem State.setReg_flags (s : State) (r : Reg) (v : Byte) : (s.setReg r v).cpu.flags = s.cpu.flags := by cases r <;> rfl
@[simp] theorem State.setReg_sp (s : State) (r : Reg) (v : Byte) : (s.setReg r v).cpu.sp = s.cpu.sp := by cases r <;> rfl
@[simp] theorem State.setReg_pc (s : State) (r : Reg) (v : Byte) : (s.setReg r v).cpu.pc = s.cpu.pc := by cases r <;> rfl
@[simp] theorem State.setReg_ime (s : State) (r : Reg) (v : Byte) : (s.setReg r v).cpu.ime = s.cpu.ime := by cases r <;> rfl
@[simp] theorem State.setReg_eiDelay (s : State) (r : Reg) (v : Byte) : (s.setReg r v).cpu.eiDelay = s.cpu.eiDelay := by cases r <;> rfl
@[simp] theorem State.setReg_mem (s : State) (r : Reg) (v : Byte) : (s.setReg r v).mem = s.mem := by cases r <;> rfl
@[simp] theorem State.setReg_ppu (s : State) (r : Reg) (v : Byte) : (s.setReg r v).ppu = s.ppu := by cases r <;> rfl
@[simp] theorem State.setReg_apu (s : State) (r : Reg) (v : Byte) : (s.setReg r v).apu = s.apu := by cases r <;> rfl
@[simp] theorem State.setReg_samples (s : State) (r : Reg) (v : Byte) : (s.setReg r v).samples = s.samples := by cases r <;> rfl
@[simp] theorem State.setReg_cfg (s : State) (r : Reg) (v : Byte) : (s.setReg r v).cfg = s.cfg := by cases r <;> rfl
@[simp] theorem State.setReg_cycles (s : State) (r : Reg) (v : Byte) : (s.setReg r v).cycles = s.cycles := by cases r <;> rfl

/-! ### setFlags -/

@[simp] theorem State.setFlags_flags (s : State) (f : Flags) : (s.setFlags f).cpu.flags = f := rfl
@[simp] theorem State.setFlags_sp (s : State) (f : Flags) : (s.setFlags f).cpu.sp = s.cpu.sp := rfl
@[simp] theorem State.setFlags_pc (s : State) (f : Flags) : (s.setFlags f).cpu.pc = s.cpu.pc := rfl
@[simp] theorem State.setFlags_ime (s : State) (f : Flags) : (s.setFlags f).cpu.ime = s.cpu.ime := rfl
@[simp] theorem State.setFlags_eiDelay (s : State) (f : Flags) : (s.setFlags f).cpu.eiDelay = s.cpu.eiDelay := rfl
@[simp] theorem State.setFlags_mem (s : State) (f : Flags) : (s.setFlags f).mem = s.mem := rfl
@[simp] theorem State.setFlags_ppu (s : State) (f : Flags) : (s.setFlags f).ppu = s.ppu := rfl
@[simp] theorem State.setFlags_apu (s : State) (f : Flags) : (s.setFlags f).apu = s.apu := rfl
@[simp] theorem State.setFlags_samples (s : State) (f : Flags) : (s.setFlags f).samples = s.samples := rfl
@[simp] theorem State.setFlags_cfg (s : State) (f : Flags) : (s.setFlags f).cfg = s.cfg := rfl
@[simp] theorem State.setFlags_cycles (s : State) (f : Flags) : (s.setFlags f).cycles = s.cycles := rfl
@[simp] theorem State.setFlags_reg (s : State) (f : Flags) (r' : Reg) : (s.setFlags f).reg r' = s.reg r' := by cases r' <;> rfl

/-! ### setPc -/

@[simp] theorem State.setPc_flags (s : State) (v : Word) : (s.setPc v).cpu.flags = s.cpu.flags := rfl
@[simp] theorem State.setPc_sp (s : State) (v : Word) : (s.setPc v).cpu.sp = s.cpu.sp := rfl
@[simp] theorem State.setPc_pc (s : State) (v : Word) : (s.setPc v).cpu.pc = v := rfl
@[simp] theorem State.setPc_ime (s : State) (v : Word) : (s.setPc v).cpu.ime = s.cpu.ime := rfl
@[simp] theorem State.setPc_eiDelay (s : State) (v : Word) : (s.setPc v).cpu.eiDelay = s.cpu.eiDelay := rfl
@[simp] theorem State.setPc_mem (s : State) (v : Word) : (s.setPc v).mem = s.mem := rfl
@[simp] theorem State.setPc_ppu (s : State) (v : Word) : (s.setPc v).ppu = s.ppu := rfl
@[simp] theorem State.setPc_apu (s : State) (v : Word) : (s.setPc v).apu = s.apu := rfl
@[simp] theorem State.setPc_samples (s : State) (v : Word) : (s.setPc v).samples = s.samples := rfl
@[simp] theorem State.setPc_cfg (s : State) (v : Word) : (s.setPc v).cfg = s.cfg := rfl
@[simp] theorem State.setPc_cycles (s : State) (v : Word) : (s.setPc v).cycles = s.cycles := rfl
@[simp] theorem State.setPc_reg (s : State) (v : Word) (r' : Reg) : (s.setPc v).reg r' = s.reg r' := by cases r' <;> rfl

/-! ### setSp -/

@[simp] theorem State.setSp_flags (s : State) (v : Word) : (s.setSp v).cpu.flags = s.cpu.flags := rfl
@[simp] theorem State.setSp_sp (s : State) (v : Word) : (s.setSp v).cpu.sp = v := rfl
@[simp] theorem State.setSp_pc (s : State) (v : Word) : (s.setSp v).cpu.pc = s.cpu.pc := rfl
@[simp] theorem State.setSp_ime (s : State) (v : Word) : (s.setSp v).cpu.ime = s.cpu.ime := rfl
@[simp] theorem State.setSp_eiDelay (s : State) (v : Word) : (s.setSp v).cpu.eiDelay = s.cpu.eiDelay := rfl
@[simp] theorem State.setSp_mem (s : State) (v : Word) : (s.setSp v).mem = s.mem := rfl
@[simp] theorem State.setSp_ppu (s : State) (v : Word) : (s.setSp v).ppu = s.ppu := rfl
@[simp] theorem State.setSp_apu (s : State) (v : Word) : (s.setSp v).apu = s.apu := rfl
@[simp] theorem State.setSp_samples (s : State) (v : Word) : (s.setSp v).samples = s.samples := rfl
@[simp] theorem State.setSp_cfg (s : State) (v : Word) : (s.setSp v).cfg = s.cfg := rfl
@[simp] theorem State.setSp_cycles (s : State) (v : Word) : (s.setSp v).cycles = s.cycles := rfl
@[simp] theorem State.setSp_reg (s : State) (v : Word) (r' : Reg) : (s.setSp v).reg r' = s.reg r' := by cases r' <;> rfl

/-! ### setIme -/

@[simp] theorem State.setIme_flags (s : State) (v : Bool) : (s.setIme v).cpu.flags = s.cpu.flags := rfl
@[simp] theorem State.setIme_sp (s : State) (v : Bool) : (s.setIme v).cpu.sp = s.cpu.sp := rfl
@[simp] theorem State.setIme_pc (s : State) (v : Bool) : (s.setIme v).cpu.pc = s.cpu.pc := rfl
@[simp] theorem State.setIme_ime (s : State) (v : Bool) : (s.setIme v).cpu.ime = v := rfl
@[simp] theorem State.setIme_eiDelay (s : State) (v : Bool) : (s.setIme v).cpu.eiDelay = s.cpu.eiDelay := rfl
@[simp] theorem State.setIme_mem (s : State) (v : Bool) : (s.setIme v).mem = s.mem := rfl
@[simp] theorem State.setIme_ppu (s : State) (v : Bool) : (s.setIme v).ppu = s.ppu := rfl
@[simp] theorem State.setIme_apu (s : State) (v : Bool) : (s.setIme v).apu = s.apu := rfl
@[simp] theorem State.setIme_samples (s : State) (v : Bool) : (s.setIme v).samples = s.samples := rfl
@[simp] theorem State.setIme_cfg (s : State) (v : Bool) : (s.setIme v).cfg = s.cfg := rfl
@[simp] theorem State.setIme_cycles (s : State) (v : Bool) : (s.setIme v).cycles = s.cycles := rfl
@[simp] theorem State.setIme_reg (s : State) (v : Bool) (r' : Reg) : (s.setIme v).reg r' = s.reg r' := by cases r' <;> rfl

/-! ### setEiDelay -/

@[simp] theorem State.setEiDelay_flags (s : State) (v : Fin 3) : (s.setEiDelay v).cpu.flags = s.cpu.flags := rfl
@[simp] theorem State.setEiDelay_sp (s : State) (v : Fin 3) : (s.setEiDelay v).cpu.sp = s.cpu.sp := rfl
@[simp] theorem State.setEiDelay_pc (s : State) (v : Fin 3) : (s.setEiDelay v).cpu.pc = s.cpu.pc := rfl
@[simp] theorem State.setEiDelay_ime (s : State) (v : Fin 3) : (s.setEiDelay v).cpu.ime = s.cpu.ime := rfl
@[simp] theorem State.setEiDelay_eiDelay (s : State) (v : Fin 3) : (s.setEiDelay v).cpu.eiDelay = v := rfl
@[simp] theorem State.setEiDelay_mem (s : State) (v : Fin 3) : (s.setEiDelay v).mem = s.mem := rfl
@[simp] theorem State.setEiDelay_ppu (s : State) (v : Fin 3) : (s.setEiDelay v).ppu = s.ppu := rfl
@[simp] theorem State.setEiDelay_apu (s : State) (v : Fin 3) : (s.setEiDelay v).apu = s.apu := rfl
@[simp] theorem State.setEiDelay_samples (s : State) (v : Fin 3) : (s.setEiDelay v).samples = s.samples := rfl
@[simp] theorem State.setEiDelay_cfg (s : State) (v : Fin 3) : (s.setEiDelay v).cfg = s.cfg := rfl
@[simp] theorem State.setEiDelay_cycles (s : State) (v : Fin 3) : (s.setEiDelay v).cycles = s.cycles := rfl
@[simp] theorem State.setEiDelay_reg (s : State) (v : Fin 3) (r' : Reg) : (s.setEiDelay v).reg r' = s.reg r' := by cases r' <;> rfl

/-! ### setPair -/

@[simp] theorem State.setPair_flags (s : State) (p : Pair) (w : Word) : (s.setPair p w).cpu.flags = s.cpu.flags := by cases p <;> rfl
@[simp] theorem State.setPair_pc (s : State) (p : Pair) (w : Word) : (s.setPair p w).cpu.pc = s.cpu.pc := by cases p <;> rfl
@[simp] theorem State.setPair_ime (s : State) (p : Pair) (w : Word) : (s.setPair p w).cpu.ime = s.cpu.ime := by cases p <;> rfl
@[simp] theorem State.setPair_eiDelay (s : State) (p : Pair) (w : Word) : (s.setPair p w).cpu.eiDelay = s.cpu.eiDelay := by cases p <;> rfl
@[simp] theorem State.setPair_mem (s : State) (p : Pair) (w : Word) : (s.setPair p w).mem = s.mem := by cases p <;> rfl
@[simp] theorem State.setPair_ppu (s : State) (p : Pair) (w : Word) : (s.setPair p w).ppu = s.ppu := by cases p <;> rfl
@[simp] theorem State.setPair_apu (s : State) (p : Pair) (w : Word) : (s.setPair p w).apu = s.apu := by cases p <;> rfl
@[simp] theorem State.setPair_samples (s : State) (p : Pair) (w : Word) : (s.setPair p w).samples = s.samples := by cases p <;> rfl
@[simp] theorem State.setPair_cfg (s : State) (p : Pair) (w : Word) : (s.setPair p w).cfg = s.cfg := by cases p <;> rfl
@[simp] theorem State.setPair_cycles (s : State) (p : Pair) (w : Word) : (s.setPair p w).cycles = s.cycles := by cases p <;> rfl

/-! ### setStackPair -/

@[simp] theorem State.setStackPair_sp (s : State) (q : StackPair) (w : Word) : (s.setStackPair q w).cpu.sp = s.cpu.sp := by cases q <;> rfl
@[simp] theorem State.setStackPair_pc (s : State) (q : StackPair) (w : Word) : (s.setStackPair q w).cpu.pc = s.cpu.pc := by cases q <;> rfl
@[simp] theorem State.setStackPair_ime (s : State) (q : StackPair) (w : Word) : (s.setStackPair q w).cpu.ime = s.cpu.ime := by cases q <;> rfl
@[simp] theorem State.setStackPair_eiDelay (s : State) (q : StackPair) (w : Word) : (s.setStackPair q w).cpu.eiDelay = s.cpu.eiDelay := by cases q <;> rfl
@[simp] theorem State.setStackPair_mem (s : State) (q : StackPair) (w : Word) : (s.setStackPair q w).mem = s.mem := by cases q <;> rfl
@[simp] theorem State.setStackPair_ppu (s : State) (q : StackPair) (w : Word) : (s.setStackPair q w).ppu = s.ppu := by cases q <;> rfl
@[simp] theorem State.setStackPair_apu (s : State) (q : StackPair) (w : Word) : (s.setStackPair q w).apu = s.apu := by cases q <;> rfl
@[simp] theorem State.setStackPair_samples (s : State) (q : StackPair) (w : Word) : (s.setStackPair q w).samples = s.samples := by cases q <;> rfl
@[simp] theorem State.setStackPair_cfg (s : State) (q : StackPair) (w : Word) : (s.setStackPair q w).cfg = s.cfg := by cases q <;> rfl
@[simp] theorem State.setStackPair_cycles (s : State) (q : StackPair) (w : Word) : (s.setStackPair q w).cycles = s.cycles := by cases q <;> rfl

/-! ### setMem -/

@[simp] theorem State.setMem_flags (s : State) (m : Memory) : (s.setMem m).cpu.flags = s.cpu.flags := rfl
@[simp] theorem State.setMem_sp (s : State) (m : Memory) : (s.setMem m).cpu.sp = s.cpu.sp := rfl
@[simp] theorem State.setMem_pc (s : State) (m : Memory) : (s.setMem m).cpu.pc = s.cpu.pc := rfl
@[simp] theorem State.setMem_ime (s : State) (m : Memory) : (s.setMem m).cpu.ime = s.cpu.ime := rfl
@[simp] theorem State.setMem_eiDelay (s : State) (m : Memory) : (s.setMem m).cpu.eiDelay = s.cpu.eiDelay := rfl
@[simp] theorem State.setMem_mem (s : State) (m : Memory) : (s.setMem m).mem = m := rfl
@[simp] theorem State.setMem_ppu (s : State) (m : Memory) : (s.setMem m).ppu = s.ppu := rfl
@[simp] theorem State.setMem_apu (s : State) (m : Memory) : (s.setMem m).apu = s.apu := rfl
@[simp] theorem State.setMem_samples (s : State) (m : Memory) : (s.setMem m).samples = s.samples := rfl
@[simp] theorem State.setMem_cfg (s : State) (m : Memory) : (s.setMem m).cfg = s.cfg := rfl
@[simp] theorem State.setMem_cycles (s : State) (m : Memory) : (s.setMem m).cycles = s.cycles := rfl
@[simp] theorem State.setMem_reg (s : State) (m : Memory) (r' : Reg) : (s.setMem m).reg r' = s.reg r' := by cases r' <;> rfl

/-! ### report -/

@[simp] theorem State.report_flags (s : State) (k : CycleKey) : (s.report k).cpu.flags = s.cpu.flags := rfl
@[simp] theorem State.report_sp (s : State) (k : CycleKey) : (s.report k).cpu.sp = s.cpu.sp := rfl
@[simp] theorem State.report_pc (s : State) (k : CycleKey) : (s.report k).cpu.pc = s.cpu.pc := rfl
@[simp] theorem State.report_ime (s : State) (k : CycleKey) : (s.report k).cpu.ime = s.cpu.ime := rfl
@[simp] theorem State.report_eiDelay (s : State) (k : CycleKey) : (s.report k).cpu.eiDelay = s.cpu.eiDelay := rfl
@[simp] theorem State.report_mem (s : State) (k : CycleKey) : (s.report k).mem = s.mem := rfl
@[simp] theorem State.report_ppu (s : State) (k : CycleKey) : (s.report k).ppu = s.ppu := rfl
@[simp] theorem State.report_apu (s : State) (k : CycleKey) : (s.report k).apu = s.apu := rfl
@[simp] theorem State.report_samples (s : State) (k : CycleKey) : (s.report k).samples = s.samples := rfl
@[simp] theorem State.report_cfg (s : State) (k : CycleKey) : (s.report k).cfg = s.cfg := rfl
@[simp] theorem State.report_cycles (s : State) (k : CycleKey) : (s.report k).cycles = s.cfg.cyclesOf k := rfl
@[simp] theorem State.report_reg (s : State) (k : CycleKey) (r' : Reg) : (s.report k).reg r' = s.reg r' := by cases r' <;> rfl

/-! ### dropTop -/

@[simp] theorem State.dropTop_flags (s : State) : (s.dropTop).cpu.flags = s.cpu.flags := rfl
@[simp] theorem State.dropTop_sp (s : State) : (s.dropTop).cpu.sp = s.cpu.sp + 2 := rfl
@[simp] theorem State.dropTop_pc (s : State) : (s.dropTop).cpu.pc = s.cpu.pc := rfl
@[simp] theorem State.dropTop_ime (s : State) : (s.dropTop).cpu.ime = s.cpu.ime := rfl
@[simp] theorem State.dropTop_eiDelay (s : State) : (s.dropTop).cpu.eiDelay = s.cpu.eiDelay := rfl
@[simp] theorem State.dropTop_mem (s : State) : (s.dropTop).mem = s.mem := rfl
@[simp] theorem State.dropTop_ppu (s : State) : (s.dropTop).ppu = s.ppu := rfl
@[simp] theorem State.dropTop_apu (s : State) : (s.dropTop).apu = s.apu := rfl
@[simp] theorem State.dropTop_samples (s : State) : (s.dropTop).samples = s.samples := rfl
@[simp] theorem State.dropTop_cfg (s : State) : (s.dropTop).cfg = s.cfg := rfl
@[simp] theorem State.dropTop_cycles (s : State) : (s.dropTop).cycles = s.cycles := rfl
@[simp] theorem State.dropTop_reg (s : State) (r' : Reg) : (s.dropTop).reg r' = s.reg r' := by cases r' <;> rfl

/-! ### advancePc -/

@[simp] theorem State.advancePc_flags (s : State) (n : Nat) : (s.advancePc n).cpu.flags = s.cpu.flags := rfl
@[simp] theorem State.advancePc_sp (s : State) (n : Nat) : (s.advancePc n).cpu.sp = s.cpu.sp := rfl
@[simp] theorem State.advancePc_pc (s : State) (n : Nat) : (s.advancePc n).cpu.pc = s.cpu.pc + BitVec.ofNat 16 n := rfl
@[simp] theorem State.advancePc_ime (s : State) (n : Nat) : (s.advancePc n).cpu.ime = s.cpu.ime := rfl
@[simp] theorem State.advancePc_eiDelay (s : State) (n : Nat) : (s.advancePc n).cpu.eiDelay = s.cpu.eiDelay := rfl
@[simp] theorem State.advancePc_mem (s : State) (n : Nat) : (s.advancePc n).mem = s.mem := rfl
@[simp] theorem State.advancePc_ppu (s : State) (n : Nat) : (s.advancePc n).ppu = s.ppu := rfl
@[simp] theorem State.advancePc_apu (s : State) (n : Nat) : (s.advancePc n).apu = s.apu := rfl
@[simp] theorem State.advancePc_samples (s : State) (n : Nat) : (s.advancePc n).samples = s.samples := rfl
@[simp] theorem State.advancePc_cfg (s : State) (n : Nat) : (s.advancePc n).cfg = s.cfg := rfl
@[simp] theorem State.advancePc_cycles (s : State) (n : Nat) : (s.advancePc n).cycles = s.cycles := rfl
@[simp] theorem State.advancePc_reg (s : State) (n : Nat) (r' : Reg) : (s.advancePc n).reg r' = s.reg r' := by cases r' <;> rfl

/-! ### Registers by label -/

/-- 10_state.md R22: the register written reads back, every other keeps its value. -/
theorem State.setReg_reg (s : State) (r r' : Reg) (v : Byte) :
    (s.setReg r v).reg r' = if r' = r then v else s.reg r' := by
  cases r <;> cases r' <;> rfl

@[simp] theorem State.setReg_reg_self (s : State) (r : Reg) (v : Byte) : (s.setReg r v).reg r = v := by
  simp [State.setReg_reg]

@[simp] theorem State.setReg_reg_of_ne (s : State) (r r' : Reg) (v : Byte) (h : r' ≠ r) :
    (s.setReg r v).reg r' = s.reg r' := by
  simp [State.setReg_reg, h]

@[simp] theorem State.reg_a (s : State) : s.reg .a = s.cpu.a := rfl
@[simp] theorem State.reg_b (s : State) : s.reg .b = s.cpu.b := rfl
@[simp] theorem State.reg_c (s : State) : s.reg .c = s.cpu.c := rfl
@[simp] theorem State.reg_d (s : State) : s.reg .d = s.cpu.d := rfl
@[simp] theorem State.reg_e (s : State) : s.reg .e = s.cpu.e := rfl
@[simp] theorem State.reg_h (s : State) : s.reg .h = s.cpu.h := rfl
@[simp] theorem State.reg_l (s : State) : s.reg .l = s.cpu.l := rfl

/-! ### Updates that keep the registers -/

@[simp] theorem State.setMem_cpu (s : State) (m : Memory) : (s.setMem m).cpu = s.cpu := rfl
@[simp] theorem State.setPalette_cpu (s : State) (p : Palette) : (s.setPalette p).cpu = s.cpu := rfl
@[simp] theorem State.plainWrite_cpu (s : State) (a : Word) (v : Byte) : (s.plainWrite a v).cpu = s.cpu := rfl
@[simp] theorem State.report_cpu (s : State) (k : CycleKey) : (s.report k).cpu = s.cpu := rfl
@[simp] theorem State.setAcc_cpu (s : State) (v : Fin 456) : (s.setAcc v).cpu = s.cpu := rfl
@[simp] theorem State.setChannel_cpu (s : State) (c : ChannelId) (ch : Channel) : (s.setChannel c ch).cpu = s.cpu := by cases c <;> rfl

/-! ### setPalette -/

@[simp] theorem State.setPalette_mem (s : State) (p : Palette) : (s.setPalette p).mem = s.mem := rfl
@[simp] theorem State.setPalette_apu (s : State) (p : Palette) : (s.setPalette p).apu = s.apu := rfl
@[simp] theorem State.setPalette_samples (s : State) (p : Palette) : (s.setPalette p).samples = s.samples := rfl
@[simp] theorem State.setPalette_cfg (s : State) (p : Palette) : (s.setPalette p).cfg = s.cfg := rfl
@[simp] theorem State.setPalette_cycles (s : State) (p : Palette) : (s.setPalette p).cycles = s.cycles := rfl
@[simp] theorem State.setPalette_acc (s : State) (p : Palette) : (s.setPalette p).ppu.acc = s.ppu.acc := rfl
@[simp] theorem State.setPalette_fb (s : State) (p : Palette) : (s.setPalette p).ppu.fb = s.ppu.fb := rfl
@[simp] theorem State.setPalette_palette (s : State) (p : Palette) : (s.setPalette p).ppu.palette = p := rfl

/-! ### plainWrite -/

@[simp] theorem State.plainWrite_mem (s : State) (a : Word) (v : Byte) : (s.plainWrite a v).mem = s.mem.write a.toNat v := rfl
@[simp] theorem State.plainWrite_ppu (s : State) (a : Word) (v : Byte) : (s.plainWrite a v).ppu = s.ppu := rfl
@[simp] theorem State.plainWrite_apu (s : State) (a : Word) (v : Byte) : (s.plainWrite a v).apu = s.apu := rfl
@[simp] theorem State.plainWrite_samples (s : State) (a : Word) (v : Byte) : (s.plainWrite a v).samples = s.samples := rfl
@[simp] theorem State.plainWrite_cfg (s : State) (a : Word) (v : Byte) : (s.plainWrite a v).cfg = s.cfg := rfl
@[simp] theorem State.plainWrite_cycles (s : State) (a : Word) (v : Byte) : (s.plainWrite a v).cycles = s.cycles := rfl

/-! ### setAcc and setChannel -/

@[simp] theorem State.setAcc_mem (s : State) (v : Fin 456) : (s.setAcc v).mem = s.mem := rfl
@[simp] theorem State.setAcc_apu (s : State) (v : Fin 456) : (s.setAcc v).apu = s.apu := rfl
@[simp] theorem State.setAcc_samples (s : State) (v : Fin 456) : (s.setAcc v).samples = s.samples := rfl
@[simp] theorem State.setAcc_cfg (s : State) (v : Fin 456) : (s.setAcc v).cfg = s.cfg := rfl
@[simp] theorem State.setAcc_cycles (s : State) (v : Fin 456) : (s.setAcc v).cycles = s.cycles := rfl
@[simp] theorem State.setAcc_acc (s : State) (v : Fin 456) : (s.setAcc v).ppu.acc = v := rfl
@[simp] theorem State.setAcc_palette (s : State) (v : Fin 456) : (s.setAcc v).ppu.palette = s.ppu.palette := rfl
@[simp] theorem State.setAcc_fb (s : State) (v : Fin 456) : (s.setAcc v).ppu.fb = s.ppu.fb := rfl
@[simp] theorem State.setChannel_mem (s : State) (c : ChannelId) (ch : Channel) : (s.setChannel c ch).mem = s.mem := by cases c <;> rfl
@[simp] theorem State.setChannel_ppu (s : State) (c : ChannelId) (ch : Channel) : (s.setChannel c ch).ppu = s.ppu := by cases c <;> rfl
@[simp] theorem State.setChannel_samples (s : State) (c : ChannelId) (ch : Channel) : (s.setChannel c ch).samples = s.samples := by cases c <;> rfl
@[simp] theorem State.setChannel_cfg (s : State) (c : ChannelId) (ch : Channel) : (s.setChannel c ch).cfg = s.cfg := by cases c <;> rfl
@[simp] theorem State.setChannel_cycles (s : State) (c : ChannelId) (ch : Channel) : (s.setChannel c ch).cycles = s.cycles := by cases c <;> rfl
@[simp] theorem State.setChannel_sampleTimer (s : State) (c : ChannelId) (ch : Channel) : (s.setChannel c ch).apu.sampleTimer = s.apu.sampleTimer := by cases c <;> rfl
@[simp] theorem State.setChannel_channel (s : State) (c c' : ChannelId) (ch : Channel) :
    (s.setChannel c ch).channel c' = if c' = c then ch else s.channel c' := by
  cases c <;> cases c' <;> rfl

/-! ### applyEiDelay: the cases of 50_cpu_driver.md R251 -/

/-- All that the EI delay can do: `ime` and `eiDelay` move, or nothing does. -/
theorem State.applyEiDelay_eq (s : State) :
    s.applyEiDelay = (s.setIme (s.cpu.ime || decide (s.cpu.eiDelay = 1))).setEiDelay
      (if s.cpu.eiDelay = 2 then 1 else 0) := by
  obtain ⟨⟨_, _, _, _, _, _, _, _, _, _, ime, d⟩, _, _, _, _, _, _⟩ := s
  fin_cases d <;> cases ime <;> rfl

@[simp] theorem State.applyEiDelay_flags (s : State) : (s.applyEiDelay).cpu.flags = s.cpu.flags := by rw [State.applyEiDelay_eq]; rfl
@[simp] theorem State.applyEiDelay_sp (s : State) : (s.applyEiDelay).cpu.sp = s.cpu.sp := by rw [State.applyEiDelay_eq]; rfl
@[simp] theorem State.applyEiDelay_pc (s : State) : (s.applyEiDelay).cpu.pc = s.cpu.pc := by rw [State.applyEiDelay_eq]; rfl
@[simp] theorem State.applyEiDelay_mem (s : State) : (s.applyEiDelay).mem = s.mem := by rw [State.applyEiDelay_eq]; rfl
@[simp] theorem State.applyEiDelay_ppu (s : State) : (s.applyEiDelay).ppu = s.ppu := by rw [State.applyEiDelay_eq]; rfl
@[simp] theorem State.applyEiDelay_apu (s : State) : (s.applyEiDelay).apu = s.apu := by rw [State.applyEiDelay_eq]; rfl
@[simp] theorem State.applyEiDelay_samples (s : State) : (s.applyEiDelay).samples = s.samples := by rw [State.applyEiDelay_eq]; rfl
@[simp] theorem State.applyEiDelay_cfg (s : State) : (s.applyEiDelay).cfg = s.cfg := by rw [State.applyEiDelay_eq]; rfl
@[simp] theorem State.applyEiDelay_cycles (s : State) : (s.applyEiDelay).cycles = s.cycles := by rw [State.applyEiDelay_eq]; rfl
@[simp] theorem State.applyEiDelay_reg (s : State) (r : Reg) : s.applyEiDelay.reg r = s.reg r := by
  rw [State.applyEiDelay_eq]; simp

end Sys2Proof.Machine
end

