-- ==== Sys2Proof/Laws/Memory.lean ====
section
/-! SUPPORT. The laws of the byte array: a read after a write, and that every memory operation keeps the canonical form. The read laws
hold of every memory, canonical or not. -/

namespace Sys2Proof.Machine

theorem Memory.read_erase (m : Memory) (a b : Nat) :
    (m.erase a).read b = if b = a then Memory.unlisted else m.read b := by
  induction m with
  | nil => simp [Memory.erase, Memory.read]
  | cons c m ih =>
    obtain ⟨k, u⟩ := c
    simp only [Memory.erase] at ih
    by_cases hk : k = a
    · subst hk; simp only [Memory.erase, List.filter, bne_self_eq_false, ih, Memory.read]
      by_cases hb : b = k <;> simp [hb, eq_comm]
    · have : (k != a) = true := by simpa using hk
      simp only [Memory.erase, List.filter, this, Memory.read, ih]
      by_cases hb : k = b
      · subst hb; simp [hk]
      · simp [hb]

theorem Memory.read_insert (m : Memory) (a b : Nat) (v : Byte) (h : m.read a = Memory.unlisted)
    (hm : ∀ c ∈ m, c.1 ≠ a) : (m.insert a v).read b = if b = a then v else m.read b := by
  induction m with
  | nil => simp [Memory.insert, Memory.read, eq_comm]
  | cons c m ih =>
    obtain ⟨k, u⟩ := c
    have hk : k ≠ a := hm (k, u) (by simp)
    have hm' : ∀ c ∈ m, c.1 ≠ a := fun c hc => hm c (by simp [hc])
    simp only [Memory.read, if_neg hk] at h
    simp only [Memory.insert]
    split
    · simp only [Memory.read, eq_comm]
    · simp only [Memory.read, ih h hm']
      by_cases hb : k = b
      · subst hb; simp [hk]
      · simp [hb]

theorem Memory.not_mem_erase (m : Memory) (a : Nat) : ∀ c ∈ m.erase a, c.1 ≠ a := by
  intro c hc
  simp only [Memory.erase, List.mem_filter, bne_iff_ne] at hc
  exact hc.2

/-- 20_memory.md R50 to R53: the byte written reads back and every other address reads as before. -/
theorem Memory.read_write (m : Memory) (a b : Nat) (v : Byte) :
    (m.write a v).read b = if b = a then v else m.read b := by
  unfold Memory.write
  split
  · rename_i h; rw [Memory.read_erase, h]
  · rw [Memory.read_insert _ _ _ _ (by simp [Memory.read_erase]) (Memory.not_mem_erase m a), Memory.read_erase]
    by_cases hb : b = a <;> simp [hb]

@[simp] theorem Memory.read_write_self (m : Memory) (a : Nat) (v : Byte) : (m.write a v).read a = v := by
  simp [Memory.read_write]

theorem Memory.read_write_of_ne (m : Memory) (a b : Nat) (v : Byte) (h : b ≠ a) :
    (m.write a v).read b = m.read b := by
  simp [Memory.read_write, h]

/-! ### The canonical form -/

theorem Memory.wf_nil : Memory.wf [] := by simp [Memory.wf]

theorem Memory.wf_erase {m : Memory} (h : m.wf) (a : Nat) : (m.erase a).wf :=
  ⟨h.1.filter _, fun c hc => h.2 c (List.mem_of_mem_filter hc)⟩

theorem Memory.mem_insert {m : Memory} {a : Nat} {v : Byte} {c : Host.Cell} (h : c ∈ m.insert a v) :
    c = (a, v) ∨ c ∈ m := by
  induction m with
  | nil => simpa [Memory.insert] using h
  | cons d m ih =>
    obtain ⟨k, u⟩ := d
    simp only [Memory.insert] at h
    split at h
    · simpa using h
    · rcases List.mem_cons.1 h with h | h
      · exact .inr (by simp [h])
      · exact (ih h).imp id fun h => by simp [h]

theorem Memory.wf_insert {m : Memory} (h : m.wf) {a : Nat} {v : Byte} (hv : v ≠ Memory.unlisted) (ha : a < 65536)
    (hm : ∀ c ∈ m, c.1 ≠ a) : (m.insert a v).wf := by
  refine ⟨?_, fun c hc => ?_⟩
  · have hs := h.1
    clear h
    induction m with
    | nil => simp [Memory.insert]
    | cons d m ih =>
      obtain ⟨k, u⟩ := d
      have hk : k ≠ a := hm (k, u) (by simp)
      rw [List.pairwise_cons] at hs
      simp only [Memory.insert]
      split
      · rename_i hlt
        refine List.pairwise_cons.2 ⟨fun c hc => ?_, List.pairwise_cons.2 hs⟩
        rcases List.mem_cons.1 hc with hc | hc
        · subst hc; exact hlt
        · exact lt_trans hlt (hs.1 c hc)
      · rename_i hge
        refine List.pairwise_cons.2 ⟨fun c hc => ?_, ih (fun c hc => hm c (by simp [hc])) hs.2⟩
        rcases Memory.mem_insert hc with hc | hc
        · subst hc; show k < a; omega
        · exact hs.1 c hc
  · rcases Memory.mem_insert hc with hc | hc
    · subst hc; exact ⟨hv, ha⟩
    · exact h.2 c hc

theorem Memory.wf_write {m : Memory} (h : m.wf) {a : Nat} (ha : a < 65536) (v : Byte) : (m.write a v).wf := by
  unfold Memory.write
  split
  · exact Memory.wf_erase h a
  · exact Memory.wf_insert (Memory.wf_erase h a) ‹_› ha (Memory.not_mem_erase m a)

/-- The memory of an image that fits is canonical (50_cpu_driver.md R258). -/
theorem Memory.wf_ofImage (image : List Byte) (a : Nat) (h : a + image.length ≤ 65536) :
    (Memory.ofImage a image).wf ∧ ∀ c ∈ Memory.ofImage a image, a ≤ c.1 := by
  induction image generalizing a with
  | nil => exact ⟨Memory.wf_nil, by simp [Memory.ofImage]⟩
  | cons v vs ih =>
    simp only [List.length_cons] at h
    obtain ⟨hw, hl⟩ := ih (a + 1) (by omega)
    simp only [Memory.ofImage]
    split
    · exact ⟨hw, fun c hc => le_of_lt (hl c hc)⟩
    · refine ⟨⟨List.pairwise_cons.2 ⟨fun c hc => hl c hc, hw.1⟩, fun c hc => ?_⟩, fun c hc => ?_⟩
      · rcases List.mem_cons.1 hc with hc | hc
        · subst hc; exact ⟨‹_›, by show a < 65536; omega⟩
        · exact hw.2 c hc
      · rcases List.mem_cons.1 hc with hc | hc
        · subst hc; exact le_refl a
        · exact le_of_lt (hl c hc)

/-- Each byte of an image reads back at its place, and everything else reads 0 (50_cpu_driver.md R258). -/
theorem Memory.read_ofImage (image : List Byte) (a b : Nat) :
    (Memory.ofImage a image).read b = if a ≤ b then image.getD (b - a) 0 else 0 := by
  induction image generalizing a with
  | nil => simp [Memory.ofImage, Memory.read, Memory.unlisted]
  | cons v vs ih =>
    have key : (if a + 1 ≤ b then vs.getD (b - (a + 1)) 0 else 0) =
        if a = b then 0 else if a ≤ b then (v :: vs).getD (b - a) 0 else 0 := by
      by_cases h1 : a = b
      · subst h1; simp
      · by_cases h2 : a ≤ b
        · have : b - a = (b - (a + 1)) + 1 := by omega
          simp [h1, h2, this, show a + 1 ≤ b by omega]
        · simp [h1, h2, show ¬ a + 1 ≤ b by omega]
    simp only [Memory.ofImage]
    split
    · rename_i hv
      rw [ih, key]
      by_cases h1 : a = b
      · subst h1; simp [hv, Memory.unlisted]
      · simp [h1]
    · simp only [Memory.read]
      rw [ih, key]
      by_cases h1 : a = b
      · subst h1; simp
      · simp [h1]

end Sys2Proof.Machine
end

