-- ==== Sys2Proof/Laws/Ops.lean ====
section
/-! SUPPORT. One lemma for each shared operation of the bus and the stack that says all it does; callers cite these and unfold nothing. -/

namespace Sys2Proof.Machine

/-! ### Bytes and words (00_scope.md R7) -/

theorem join_toNat (h l : Byte) : (join h l).toNat = h.toNat * 256 + l.toNat := by
  have := l.isLt
  unfold join
  rw [BitVec.toNat_append, ← Nat.shiftLeft_add_eq_or_of_lt this, Nat.shiftLeft_eq]

theorem hi_toNat (w : Word) : (hi w).toNat = w.toNat / 256 := by
  have := w.isLt
  unfold hi
  rw [BitVec.extractLsb'_toNat, Nat.shiftRight_eq_div_pow, Nat.mod_eq_of_lt (by omega)]

theorem lo_toNat (w : Word) : (lo w).toNat = w.toNat % 256 := by
  unfold lo
  rw [BitVec.extractLsb'_toNat, Nat.shiftRight_zero]

@[simp] theorem join_hi_lo (w : Word) : join (hi w) (lo w) = w := by
  apply BitVec.eq_of_toNat_eq
  rw [join_toNat, hi_toNat, lo_toNat]
  omega

@[simp] theorem hi_join (h l : Byte) : hi (join h l) = h := by
  apply BitVec.eq_of_toNat_eq
  have := l.isLt
  rw [hi_toNat, join_toNat]
  omega

@[simp] theorem lo_join (h l : Byte) : lo (join h l) = l := by
  apply BitVec.eq_of_toNat_eq
  have := l.isLt
  rw [lo_toNat, join_toNat]
  omega

theorem Word.ne_add_one (a : Word) : a ≠ a + 1 := by bv_omega

/-! ### Plain stores -/

/-- 20_memory.md R53: the byte stored reads back, every other byte is unchanged. -/
theorem State.memRead_plainWrite (s : State) (a b : Word) (v : Byte) :
    (s.plainWrite a v).memRead b = if b = a then v else s.memRead b := by
  simp only [State.memRead, State.plainWrite_mem, Memory.read_write, BitVec.toNat_inj]

@[simp] theorem State.memRead_setPalette (s : State) (p : Palette) (b : Word) :
    (s.setPalette p).memRead b = s.memRead b := rfl

/-- An operation that keeps the memory keeps every byte. -/
theorem State.memRead_congr {s t : State} (h : t.mem = s.mem) (b : Word) : t.memRead b = s.memRead b := by
  simp only [State.memRead, h]

/-! ### The DMA copy -/

/-- The offset of an address in the DMA destination. -/
def dmaOffset (b : Word) : Word := b - dmaDest

/-- What the first `n` copies of the DMA copy leave: the destination holds the source page, every other byte is unchanged. The source
of a copy is never an earlier destination (20_memory.md R55). -/
theorem State.dmaBytes_spec (s : State) (v : Byte) (n : Nat) (hn : n ≤ 160) :
    ((s.dmaBytes v n).cpu = s.cpu ∧ (s.dmaBytes v n).ppu = s.ppu ∧ (s.dmaBytes v n).apu = s.apu ∧
      (s.dmaBytes v n).samples = s.samples ∧ (s.dmaBytes v n).cfg = s.cfg ∧ (s.dmaBytes v n).cycles = s.cycles) ∧
    ∀ b, (s.dmaBytes v n).memRead b =
      if (dmaOffset b).toNat < n then s.memRead (join v 0 + dmaOffset b) else s.memRead b := by
  induction n with
  | zero => simp [State.dmaBytes]
  | succ n ih =>
    obtain ⟨⟨h1, h2, h3, h4, h5, h6⟩, hr⟩ := ih (by omega)
    refine ⟨by simp [State.dmaBytes, h1, h2, h3, h4, h5, h6], fun b => ?_⟩
    simp only [State.dmaBytes, State.memRead_plainWrite, hr]
    by_cases hb : b = dmaDest + BitVec.ofNat 16 n
    · have ho : dmaOffset b = BitVec.ofNat 16 n := by subst hb; simp [dmaOffset]
      have hon : (dmaOffset b).toNat = n := by rw [ho, BitVec.toNat_ofNat]; exact Nat.mod_eq_of_lt (by omega)
      rw [if_pos hb, if_pos (show (dmaOffset b).toNat < n + 1 by omega), ho]
      have hsrc : ¬ (dmaOffset (join v 0 + BitVec.ofNat 16 n)).toNat < n := by
        have hj := join_toNat v 0
        rw [show (0 : Byte).toNat = 0 from rfl, Nat.add_zero] at hj
        have hd : dmaDest.toNat = 65024 := by decide
        have hv := v.isLt
        simp only [dmaOffset, BitVec.toNat_sub, BitVec.toNat_add, hj, hd, BitVec.toNat_ofNat]
        have : n % 2 ^ 16 = n := Nat.mod_eq_of_lt (by omega)
        omega
      rw [if_neg hsrc]
    · rw [if_neg hb]
      have hne : (dmaOffset b).toNat ≠ n := by
        intro h
        apply hb
        have : dmaOffset b = BitVec.ofNat 16 n := by
          apply BitVec.eq_of_toNat_eq; rw [h, BitVec.toNat_ofNat]; exact (Nat.mod_eq_of_lt (by omega)).symm
        rw [← this]; simp [dmaOffset]
      by_cases hlt : (dmaOffset b).toNat < n
      · rw [if_pos hlt, if_pos (by omega)]
      · rw [if_neg hlt, if_neg (by omega)]

/-! ### MemWrite -/

/-- Whether a `MemWrite` to `a` runs the DMA copy (20_memory.md R54). -/
def State.runsDma (s : State) (a : Word) : Bool := decide (a = addrDma) && s.cfg.dmaEnabled

/-- All that `MemWrite` leaves unchanged: everything but the memory and the palette (20_memory.md R52). -/
theorem State.memWrite_frame (s : State) (a : Word) (v : Byte) :
    (s.memWrite a v).cpu = s.cpu ∧ (s.memWrite a v).ppu.acc = s.ppu.acc ∧ (s.memWrite a v).ppu.fb = s.ppu.fb ∧
    (s.memWrite a v).apu = s.apu ∧ (s.memWrite a v).samples = s.samples ∧ (s.memWrite a v).cfg = s.cfg ∧
    (s.memWrite a v).cycles = s.cycles := by
  have h := ((s.plainWrite a v).dmaBytes_spec v 160 le_rfl).1
  unfold State.memWrite State.observe State.dmaCopy
  split
  · split
    · simp [h]
    · simp
  · split <;> simp

@[simp] theorem State.memWrite_cpu (s : State) (a : Word) (v : Byte) : (s.memWrite a v).cpu = s.cpu :=
  (s.memWrite_frame a v).1
@[simp] theorem State.memWrite_acc (s : State) (a : Word) (v : Byte) : (s.memWrite a v).ppu.acc = s.ppu.acc :=
  (s.memWrite_frame a v).2.1
@[simp] theorem State.memWrite_fb (s : State) (a : Word) (v : Byte) : (s.memWrite a v).ppu.fb = s.ppu.fb :=
  (s.memWrite_frame a v).2.2.1
@[simp] theorem State.memWrite_apu (s : State) (a : Word) (v : Byte) : (s.memWrite a v).apu = s.apu :=
  (s.memWrite_frame a v).2.2.2.1
@[simp] theorem State.memWrite_samples (s : State) (a : Word) (v : Byte) : (s.memWrite a v).samples = s.samples :=
  (s.memWrite_frame a v).2.2.2.2.1
@[simp] theorem State.memWrite_cfg (s : State) (a : Word) (v : Byte) : (s.memWrite a v).cfg = s.cfg :=
  (s.memWrite_frame a v).2.2.2.2.2.1
@[simp] theorem State.memWrite_cycles (s : State) (a : Word) (v : Byte) : (s.memWrite a v).cycles = s.cycles :=
  (s.memWrite_frame a v).2.2.2.2.2.2
@[simp] theorem State.memWrite_reg (s : State) (a : Word) (v : Byte) (r : Reg) : (s.memWrite a v).reg r = s.reg r := by
  cases r <;> simp

/-- The palette after `MemWrite`: a store to BGP sets it (61_ppu.md R303). -/
theorem State.memWrite_palette (s : State) (a : Word) (v : Byte) :
    (s.memWrite a v).ppu.palette = if a = addrBgp then Palette.ofByte v else s.ppu.palette := by
  have h := ((s.plainWrite a v).dmaBytes_spec v 160 le_rfl).1
  unfold State.memWrite State.observe State.dmaCopy
  by_cases ha : a = addrDma
  · have hb : ¬ a = addrBgp := by rw [ha]; decide
    rw [if_pos ha, if_neg hb]
    split
    · simp [h]
    · simp
  · rw [if_neg ha]; split <;> simp

/-- Every byte after `MemWrite`: the DMA destination when the copy ran, the byte stored, and everything else as before
(20_memory.md R52, R55). -/
theorem State.memRead_memWrite (s : State) (a b : Word) (v : Byte) :
    (s.memWrite a v).memRead b =
      if s.runsDma a = true ∧ (dmaOffset b).toNat < 160 then (s.plainWrite a v).memRead (join v 0 + dmaOffset b)
      else if b = a then v else s.memRead b := by
  have h := ((s.plainWrite a v).dmaBytes_spec v 160 le_rfl).2 b
  unfold State.memWrite State.observe State.dmaCopy State.runsDma
  by_cases ha : a = addrDma
  · rw [if_pos ha]
    by_cases hd : s.cfg.dmaEnabled = true
    · rw [if_pos (by simpa using hd), h]; simp [ha, hd, State.memRead_plainWrite]
    · rw [if_neg (by simpa using hd)]; simp [hd, State.memRead_plainWrite]
  · rw [if_neg ha]; split <;> simp [ha, State.memRead_plainWrite]

/-- The observed register is no part of the DMA destination, so a stored byte always reads back. -/
@[simp] theorem State.memRead_memWrite_self (s : State) (a : Word) (v : Byte) : (s.memWrite a v).memRead a = v := by
  rw [State.memRead_memWrite, if_neg, if_pos rfl]
  rintro ⟨h, ho⟩
  simp only [State.runsDma, Bool.and_eq_true, decide_eq_true_eq] at h
  rw [h.1] at ho
  exact absurd ho (by decide)

/-- A byte that is neither the one stored nor in the destination of a DMA copy is unchanged. -/
theorem State.memRead_memWrite_of_ne (s : State) (a b : Word) (v : Byte) (h : b ≠ a)
    (hd : ¬ (s.runsDma a = true ∧ (dmaOffset b).toNat < 160)) : (s.memWrite a v).memRead b = s.memRead b := by
  rw [State.memRead_memWrite, if_neg hd, if_neg h]

theorem State.wf_plainWrite {s : State} (h : s.mem.wf) (a : Word) (v : Byte) : (s.plainWrite a v).mem.wf :=
  Memory.wf_write h a.isLt v

theorem State.wf_dmaBytes {s : State} (h : s.mem.wf) (v : Byte) (n : Nat) : (s.dmaBytes v n).mem.wf := by
  induction n with
  | zero => exact h
  | succ n ih => exact State.wf_plainWrite ih _ _

/-- `MemWrite` keeps the canonical form. -/
theorem State.wf_memWrite {s : State} (h : s.mem.wf) (a : Word) (v : Byte) : (s.memWrite a v).mem.wf := by
  have hp := State.wf_plainWrite h a v
  unfold State.memWrite State.observe State.dmaCopy
  split
  · split
    · exact State.wf_dmaBytes hp v 160
    · exact hp
  · split <;> exact hp

/-! ### The stack -/

/-- All that `Push16` leaves unchanged beside the two bytes: SP is down by 2, the other registers are as they were (20_memory.md R57). -/
theorem State.push16_frame (s : State) (w : Word) :
    (s.push16 w).cpu = { s.cpu with sp := s.cpu.sp - 2 } ∧ (s.push16 w).ppu.acc = s.ppu.acc ∧
    (s.push16 w).ppu.fb = s.ppu.fb ∧ (s.push16 w).apu = s.apu ∧ (s.push16 w).samples = s.samples ∧
    (s.push16 w).cfg = s.cfg ∧ (s.push16 w).cycles = s.cycles := by
  simp [State.push16, State.setSp]

@[simp] theorem State.push16_cpu (s : State) (w : Word) : (s.push16 w).cpu = { s.cpu with sp := s.cpu.sp - 2 } :=
  (s.push16_frame w).1
@[simp] theorem State.push16_acc (s : State) (w : Word) : (s.push16 w).ppu.acc = s.ppu.acc := (s.push16_frame w).2.1
@[simp] theorem State.push16_fb (s : State) (w : Word) : (s.push16 w).ppu.fb = s.ppu.fb := (s.push16_frame w).2.2.1
@[simp] theorem State.push16_apu (s : State) (w : Word) : (s.push16 w).apu = s.apu := (s.push16_frame w).2.2.2.1
@[simp] theorem State.push16_samples (s : State) (w : Word) : (s.push16 w).samples = s.samples :=
  (s.push16_frame w).2.2.2.2.1
@[simp] theorem State.push16_cfg (s : State) (w : Word) : (s.push16 w).cfg = s.cfg := (s.push16_frame w).2.2.2.2.2.1
@[simp] theorem State.push16_cycles (s : State) (w : Word) : (s.push16 w).cycles = s.cycles :=
  (s.push16_frame w).2.2.2.2.2.2

/-- `Push16` as its two stores. -/
theorem State.push16_eq (s : State) (w : Word) :
    s.push16 w = ((s.setSp (s.cpu.sp - 2)).memWrite (s.cpu.sp - 2) (hi w)).memWrite (s.cpu.sp - 2 + 1) (lo w) := rfl

@[simp] theorem State.memRead_setSp (s : State) (v b : Word) : (s.setSp v).memRead b = s.memRead b := rfl

@[simp] theorem State.runsDma_setSp (s : State) (v a : Word) : (s.setSp v).runsDma a = s.runsDma a := rfl

@[simp] theorem State.runsDma_memWrite (s : State) (a b : Word) (v : Byte) : (s.memWrite a v).runsDma b = s.runsDma b := by
  simp [State.runsDma]

/-- The two bytes that `Push16` leaves: the high byte at SP, the low byte above it (20_memory.md R57). -/
theorem State.memRead_push16 (s : State) (w : Word) :
    (s.push16 w).memRead (s.cpu.sp - 2) = hi w ∧ (s.push16 w).memRead (s.cpu.sp - 2 + 1) = lo w := by
  refine ⟨?_, by rw [State.push16_eq]; simp⟩
  rw [State.push16_eq, State.memRead_memWrite_of_ne]
  · simp
  · exact Word.ne_add_one _
  · rintro ⟨h, ho⟩
    simp only [State.runsDma, Bool.and_eq_true, decide_eq_true_eq] at h
    have hs : s.cpu.sp - 2 = addrDma - 1 := by rw [← h.1]; simp
    rw [hs] at ho
    exact absurd ho (by decide)

theorem State.wf_push16 {s : State} (h : s.mem.wf) (w : Word) : (s.push16 w).mem.wf := by
  rw [State.push16_eq]
  exact State.wf_memWrite (State.wf_memWrite (by simpa using h) _ _) _ _

/-! ### The byte F -/

/-- Reading F back after a write of the whole of it (10_state.md R25). -/
theorem Flags.toByte_ofByte (v : Byte) : (Flags.ofByte v).toByte = v &&& 0xF0 := by
  revert v; decide +kernel

@[simp] theorem Flags.ofByte_toByte (f : Flags) : Flags.ofByte f.toByte = f := by
  obtain ⟨z, n, h, c⟩ := f
  cases z <;> cases n <;> cases h <;> cases c <;> rfl

end Sys2Proof.Machine
end

