-- ==== Sys2Proof/Laws/Apu.lean ====
section
/-! SUPPORT. One lemma for each APU operation that says what it changes and what it keeps (62_apu.md). -/

namespace Sys2Proof.Machine

/-! ### The timers -/

/-- A timer that counts down leaves no event and loses no cycle before it reaches zero (62_apu.md R333). -/
theorem countDown_of_lt {t reload n : Nat} (h : n < t) : countDown t reload n = (t - n, 0) := by simp [countDown, h]

theorem countDown_of_le {t reload n : Nat} (h : t ≤ n) :
    countDown t reload n = (reload - (n - t) % reload, (n - t) / reload + 1) := by
  simp [countDown, Nat.not_lt.2 h]

/-- The timer stays within 1..reload (62_apu.md R333). -/
theorem countDown_bounds {t reload n : Nat} (hr : 1 ≤ reload) (ht : t ≤ reload) :
    1 ≤ (countDown t reload n).1 ∧ (countDown t reload n).1 ≤ reload := by
  rcases Nat.lt_or_ge n t with h | h
  · rw [countDown_of_lt h]; exact ⟨by dsimp only; omega, by dsimp only; omega⟩
  · have := Nat.mod_lt (n - t) hr
    rw [countDown_of_le h]; exact ⟨by dsimp only; omega, by dsimp only; omega⟩

/-! ### The trigger -/

@[simp] theorem State.channel_setChannel (s : State) (c : ChannelId) (ch : Channel) : (s.setChannel c ch).channel c = ch := by
  cases c <;> rfl
theorem State.channel_setChannel_of_ne (s : State) {c d : ChannelId} (ch : Channel) (h : d ≠ c) :
    (s.setChannel c ch).channel d = s.channel d := by
  cases c <;> cases d <;> first | rfl | exact absurd rfl h
@[simp] theorem State.memRead_setChannel (s : State) (c : ChannelId) (ch : Channel) (b : Word) :
    (s.setChannel c ch).memRead b = s.memRead b := State.memRead_congr (by simp) b
@[simp] theorem State.channel_plainWrite (s : State) (c : ChannelId) (a : Word) (v : Byte) :
    (s.plainWrite a v).channel c = s.channel c := by cases c <;> rfl

/-- A trigger keeps everything but its channel and its register's byte (62_apu.md R332). -/
theorem State.trigger_frame (s : State) (c : ChannelId) :
    (s.trigger c).cpu = s.cpu ∧ (s.trigger c).ppu = s.ppu ∧ (s.trigger c).samples = s.samples ∧ (s.trigger c).cfg = s.cfg ∧
    (s.trigger c).cycles = s.cycles ∧ (s.trigger c).apu.sampleTimer = s.apu.sampleTimer := by
  unfold State.trigger
  split <;> simp

@[simp] theorem State.trigger_cpu (s : State) (c : ChannelId) : (s.trigger c).cpu = s.cpu := (s.trigger_frame c).1
@[simp] theorem State.trigger_ppu (s : State) (c : ChannelId) : (s.trigger c).ppu = s.ppu := (s.trigger_frame c).2.1
@[simp] theorem State.trigger_samples (s : State) (c : ChannelId) : (s.trigger c).samples = s.samples := (s.trigger_frame c).2.2.1
@[simp] theorem State.trigger_cfg (s : State) (c : ChannelId) : (s.trigger c).cfg = s.cfg := (s.trigger_frame c).2.2.2.1
@[simp] theorem State.trigger_cycles (s : State) (c : ChannelId) : (s.trigger c).cycles = s.cycles := (s.trigger_frame c).2.2.2.2.1
@[simp] theorem State.trigger_sampleTimer (s : State) (c : ChannelId) :
    (s.trigger c).apu.sampleTimer = s.apu.sampleTimer := (s.trigger_frame c).2.2.2.2.2

/-- The channel after its trigger was looked at (62_apu.md R332). -/
theorem State.channel_trigger (s : State) (c : ChannelId) :
    (s.trigger c).channel c = if (s.memRead c.nr4).getLsbD 7 then s.triggered c else s.channel c := by
  unfold State.trigger
  split <;> simp

theorem State.channel_trigger_of_ne (s : State) {c d : ChannelId} (h : d ≠ c) : (s.trigger c).channel d = s.channel d := by
  unfold State.trigger
  split
  · simp [State.channel_setChannel_of_ne _ _ h]
  · rfl

/-- The memory after a trigger was looked at: the trigger bit is clear (62_apu.md R332). -/
theorem State.memRead_trigger (s : State) (c : ChannelId) (b : Word) :
    (s.trigger c).memRead b = if b = c.nr4 then s.memRead c.nr4 &&& 0x7F else s.memRead b := by
  unfold State.trigger
  split
  · rw [State.memRead_plainWrite]; simp
  · rename_i h
    split
    · rename_i hb; subst hb
      generalize s.memRead c.nr4 = v at h
      revert h; revert v; decide +kernel
    · rfl

theorem State.wf_trigger {s : State} (h : s.mem.wf) (c : ChannelId) : (s.trigger c).mem.wf := by
  unfold State.trigger
  split
  · exact State.wf_plainWrite (by simpa using h) _ _
  · exact h

/-! ### The channels -/

theorem Channel.decays_keeps (ch : Channel) (k : Nat) :
    (ch.decays k).duty = ch.duty ∧ (ch.decays k).dutyPos = ch.dutyPos ∧ (ch.decays k).chanTimer = ch.chanTimer ∧
    (ch.decays k).chanReload = ch.chanReload ∧ (ch.decays k).periodTimer = ch.periodTimer ∧
    (ch.decays k).periodReload = ch.periodReload := by
  induction k with
  | zero => simp [Channel.decays]
  | succ k ih => simpa [Channel.decays, Channel.decay] using ih

theorem Channel.decay_volume (ch : Channel) : ch.decay.volume.val = ch.volume.val - 1 := by
  have := ch.volume.isLt
  simp only [Channel.decay, Fin.ofNat]
  exact Nat.mod_eq_of_lt (by omega)

/-! ### The tick -/

@[simp] theorem State.sampleTick_cpu (s : State) (n : Nat) : (s.sampleTick n).cpu = s.cpu := rfl
@[simp] theorem State.sampleTick_mem (s : State) (n : Nat) : (s.sampleTick n).mem = s.mem := rfl
@[simp] theorem State.sampleTick_ppu (s : State) (n : Nat) : (s.sampleTick n).ppu = s.ppu := rfl
@[simp] theorem State.sampleTick_cfg (s : State) (n : Nat) : (s.sampleTick n).cfg = s.cfg := rfl
@[simp] theorem State.sampleTick_cycles (s : State) (n : Nat) : (s.sampleTick n).cycles = s.cycles := rfl
@[simp] theorem State.sampleTick_ch1 (s : State) (n : Nat) : (s.sampleTick n).apu.ch1 = s.apu.ch1 := rfl
@[simp] theorem State.sampleTick_ch2 (s : State) (n : Nat) : (s.sampleTick n).apu.ch2 = s.apu.ch2 := rfl
@[simp] theorem State.advanceChannels_cpu (s : State) (n : Nat) : (s.advanceChannels n).cpu = s.cpu := rfl
@[simp] theorem State.advanceChannels_mem (s : State) (n : Nat) : (s.advanceChannels n).mem = s.mem := rfl
@[simp] theorem State.advanceChannels_ppu (s : State) (n : Nat) : (s.advanceChannels n).ppu = s.ppu := rfl
@[simp] theorem State.advanceChannels_cfg (s : State) (n : Nat) : (s.advanceChannels n).cfg = s.cfg := rfl
@[simp] theorem State.advanceChannels_cycles (s : State) (n : Nat) : (s.advanceChannels n).cycles = s.cycles := rfl
@[simp] theorem State.advanceChannels_samples (s : State) (n : Nat) : (s.advanceChannels n).samples = s.samples := rfl
@[simp] theorem State.advanceChannels_sampleTimer (s : State) (n : Nat) :
    (s.advanceChannels n).apu.sampleTimer = s.apu.sampleTimer := rfl

@[simp] theorem State.apuTick_cpu (s : State) (n : Nat) : (s.apuTick n).cpu = s.cpu := by simp [State.apuTick]
@[simp] theorem State.apuTick_ppu (s : State) (n : Nat) : (s.apuTick n).ppu = s.ppu := by simp [State.apuTick]
@[simp] theorem State.apuTick_cfg (s : State) (n : Nat) : (s.apuTick n).cfg = s.cfg := by simp [State.apuTick]
@[simp] theorem State.apuTick_cycles (s : State) (n : Nat) : (s.apuTick n).cycles = s.cycles := by simp [State.apuTick]

/-- The memory of an APU tick is that of the two triggers (62_apu.md R339). -/
theorem State.apuTick_mem (s : State) (n : Nat) : (s.apuTick n).mem = ((s.trigger .one).trigger .two).mem := rfl

/-- The APU tick keeps the canonical form of the memory. -/
theorem State.wf_apuTick {s : State} (h : s.mem.wf) (n : Nat) : (s.apuTick n).mem.wf := by
  rw [State.apuTick_mem]; exact State.wf_trigger (State.wf_trigger h .one) .two

end Sys2Proof.Machine
end

