-- ==== Sys2Proof/Laws/Exec.lean ====
section
/-! SUPPORT. The meaning of every instruction by its form: a claim about exec for all instructions is a claim about `Form.run`, which has
one case for each form and not one for each row of the table. -/

namespace Sys2Proof

theorem Form.instr_form (i : Instr) : i.form.instr = i := by cases i <;> rfl

theorem Form.form_instr (f : Form) : f.instr.form = f := by
  cases f with
  | nop => rfl
  | ldPairImm p w => cases p <;> rfl
  | ldPairIndA p => cases p <;> rfl
  | incPair p => cases p <;> rfl
  | incReg r => cases r <;> rfl
  | decReg r => cases r <;> rfl
  | ldRegImm dst n => cases dst <;> rfl
  | ldAbsSp w => rfl
  | addHl p => cases p <;> rfl
  | ldAPairInd p => cases p <;> rfl
  | decPair p => cases p <;> rfl
  | rla => rfl
  | jr e => rfl
  | jrCond cc e => cases cc <;> rfl
  | ldIndIncA => rfl
  | ldAIndInc => rfl
  | cpl => rfl
  | ldIndDecA => rfl
  | incInd => rfl
  | decInd => rfl
  | ldIndImm n => rfl
  | scf => rfl
  | ldAIndDec => rfl
  | ldRegReg dst r => cases dst <;> cases r <;> rfl
  | ldRegInd dst => cases dst <;> rfl
  | ldIndReg r => cases r <;> rfl
  | aluReg op r => cases op <;> cases r <;> rfl
  | aluInd op => cases op <;> rfl
  | retCond cc => cases cc <;> rfl
  | pop q => cases q <;> rfl
  | jpCond cc w => cases cc <;> rfl
  | jp w => rfl
  | callCond cc w => cases cc <;> rfl
  | push q => cases q <;> rfl
  | aluImm op n => cases op <;> rfl
  | ret => rfl
  | call w => rfl
  | reti => rfl
  | ldhConstA n => rfl
  | ldHighRegA => rfl
  | addSp e => rfl
  | jpHl => rfl
  | ldAbsA w => rfl
  | ldhAConst n => rfl
  | ldAHighReg => rfl
  | di => rfl
  | ldHlSpDisp e => rfl
  | ldSpHl => rfl
  | ldAAbs w => rfl
  | ei => rfl
  | rlReg r => cases r <;> rfl
  | swapReg r => cases r <;> rfl
  | swapInd => rfl
  | bitReg b r => fin_cases b <;> cases r <;> rfl
  | bitInd b => fin_cases b <;> rfl

end Sys2Proof

namespace Sys2Proof.Machine

/-- What an instruction of a form leaves, by the shared operation of its form. -/
def Form.run (f : Form) (s : State) : State :=
  match f with
  | .nop => nop s
  | .ldPairImm p w => ldPairImm p w s
  | .ldPairIndA p => ldPairIndA p s
  | .incPair p => incPair p s
  | .incReg r => incReg r s
  | .decReg r => decReg r s
  | .ldRegImm dst n => ldRegImm dst n s
  | .ldAbsSp w => ldAbsSp w s
  | .addHl p => addHl p s
  | .ldAPairInd p => ldAPairInd p s
  | .decPair p => decPair p s
  | .rla => rla s
  | .jr e => jr e s
  | .jrCond cc e => jrCond cc e s
  | .ldIndIncA => ldIndIncA s
  | .ldAIndInc => ldAIndInc s
  | .cpl => cpl s
  | .ldIndDecA => ldIndDecA s
  | .incInd => incInd s
  | .decInd => decInd s
  | .ldIndImm n => ldIndImm n s
  | .scf => scf s
  | .ldAIndDec => ldAIndDec s
  | .ldRegReg dst r => ldRegReg dst r s
  | .ldRegInd dst => ldRegInd dst s
  | .ldIndReg r => ldIndReg r s
  | .aluReg op r => aluReg op r s
  | .aluInd op => aluInd op s
  | .retCond cc => retCond cc s
  | .pop q => pop q s
  | .jpCond cc w => jpCond cc w s
  | .jp w => jp w s
  | .callCond cc w => callCond cc w s
  | .push q => push q s
  | .aluImm op n => aluImm op n s
  | .ret => ret s
  | .call w => call w s
  | .reti => reti s
  | .ldhConstA n => ldhConstA n s
  | .ldHighRegA => ldHighRegA s
  | .addSp e => addSp e s
  | .jpHl => jpHl s
  | .ldAbsA w => ldAbsA w s
  | .ldhAConst n => ldhAConst n s
  | .ldAHighReg => ldAHighReg s
  | .di => di s
  | .ldHlSpDisp e => ldHlSpDisp e s
  | .ldSpHl => ldSpHl s
  | .ldAAbs w => ldAAbs w s
  | .ei => ei s
  | .rlReg r => rlReg r s
  | .swapReg r => swapReg r s
  | .swapInd => swapInd s
  | .bitReg b r => bitReg b r s
  | .bitInd b => bitInd b s

/-- Every instruction answers a next state: the one its form leaves (60_exceptions.md R285). -/
theorem exec_eq_run (i : Instr) (s : State) : exec i s = .next (Form.run i.form s) := by cases i <;> rfl

theorem exec_instr (f : Form) (s : State) : exec f.instr s = .next (Form.run f s) := by
  rw [exec_eq_run, Form.form_instr]

/-- A claim about every instruction, from the claim about every form. -/
theorem forall_instr {P : Instr → Prop} (h : ∀ f : Form, P f.instr) (i : Instr) : P i :=
  Form.instr_form i ▸ h i.form

end Sys2Proof.Machine
end

