-- ==== Sys2Proof/Laws/PerInstr.lean ====
section
/-! SUPPORT. Statements for all instructions, one lemma for each constructor of `Instr`. -/

namespace Sys2Proof.Laws.EncodedLength

/-- The encoding of an instruction is as long as its size says (30_encoding.md R84, R93). -/
def Statement (i : Instr) : Prop := (encode i).length = i.size

theorem nop : Statement .nop := rfl
theorem ld_BC_d16 (w : Word) : Statement (.ld_BC_d16 w) := rfl
theorem ld_atBC_A : Statement .ld_atBC_A := rfl
theorem inc_BC : Statement .inc_BC := rfl
theorem inc_B : Statement .inc_B := rfl
theorem dec_B : Statement .dec_B := rfl
theorem ld_B_d8 (n : Byte) : Statement (.ld_B_d8 n) := rfl
theorem ld_atA16_SP (w : Word) : Statement (.ld_atA16_SP w) := rfl
theorem add_HL_BC : Statement .add_HL_BC := rfl
theorem ld_A_atBC : Statement .ld_A_atBC := rfl
theorem dec_BC : Statement .dec_BC := rfl
theorem inc_C : Statement .inc_C := rfl
theorem dec_C : Statement .dec_C := rfl
theorem ld_C_d8 (n : Byte) : Statement (.ld_C_d8 n) := rfl
theorem ld_DE_d16 (w : Word) : Statement (.ld_DE_d16 w) := rfl
theorem ld_atDE_A : Statement .ld_atDE_A := rfl
theorem inc_DE : Statement .inc_DE := rfl
theorem inc_D : Statement .inc_D := rfl
theorem dec_D : Statement .dec_D := rfl
theorem ld_D_d8 (n : Byte) : Statement (.ld_D_d8 n) := rfl
theorem rla : Statement .rla := rfl
theorem jr_e8 (n : Byte) : Statement (.jr_e8 n) := rfl
theorem add_HL_DE : Statement .add_HL_DE := rfl
theorem ld_A_atDE : Statement .ld_A_atDE := rfl
theorem dec_DE : Statement .dec_DE := rfl
theorem inc_E : Statement .inc_E := rfl
theorem dec_E : Statement .dec_E := rfl
theorem ld_E_d8 (n : Byte) : Statement (.ld_E_d8 n) := rfl
theorem jr_NZ_e8 (n : Byte) : Statement (.jr_NZ_e8 n) := rfl
theorem ld_HL_d16 (w : Word) : Statement (.ld_HL_d16 w) := rfl
theorem ld_atHLinc_A : Statement .ld_atHLinc_A := rfl
theorem inc_HL : Statement .inc_HL := rfl
theorem inc_H : Statement .inc_H := rfl
theorem dec_H : Statement .dec_H := rfl
theorem ld_H_d8 (n : Byte) : Statement (.ld_H_d8 n) := rfl
theorem jr_Z_e8 (n : Byte) : Statement (.jr_Z_e8 n) := rfl
theorem add_HL_HL : Statement .add_HL_HL := rfl
theorem ld_A_atHLinc : Statement .ld_A_atHLinc := rfl
theorem dec_HL : Statement .dec_HL := rfl
theorem inc_L : Statement .inc_L := rfl
theorem dec_L : Statement .dec_L := rfl
theorem ld_L_d8 (n : Byte) : Statement (.ld_L_d8 n) := rfl
theorem cpl : Statement .cpl := rfl
theorem jr_NC_e8 (n : Byte) : Statement (.jr_NC_e8 n) := rfl
theorem ld_SP_d16 (w : Word) : Statement (.ld_SP_d16 w) := rfl
theorem ld_atHLdec_A : Statement .ld_atHLdec_A := rfl
theorem inc_SP : Statement .inc_SP := rfl
theorem inc_atHL : Statement .inc_atHL := rfl
theorem dec_atHL : Statement .dec_atHL := rfl
theorem ld_atHL_d8 (n : Byte) : Statement (.ld_atHL_d8 n) := rfl
theorem scf : Statement .scf := rfl
theorem jr_C_e8 (n : Byte) : Statement (.jr_C_e8 n) := rfl
theorem add_HL_SP : Statement .add_HL_SP := rfl
theorem ld_A_atHLdec : Statement .ld_A_atHLdec := rfl
theorem dec_SP : Statement .dec_SP := rfl
theorem inc_A : Statement .inc_A := rfl
theorem dec_A : Statement .dec_A := rfl
theorem ld_A_d8 (n : Byte) : Statement (.ld_A_d8 n) := rfl
theorem ld_B_B : Statement .ld_B_B := rfl
theorem ld_B_C : Statement .ld_B_C := rfl
theorem ld_B_D : Statement .ld_B_D := rfl
theorem ld_B_E : Statement .ld_B_E := rfl
theorem ld_B_H : Statement .ld_B_H := rfl
theorem ld_B_L : Statement .ld_B_L := rfl
theorem ld_B_atHL : Statement .ld_B_atHL := rfl
theorem ld_B_A : Statement .ld_B_A := rfl
theorem ld_C_B : Statement .ld_C_B := rfl
theorem ld_C_C : Statement .ld_C_C := rfl
theorem ld_C_D : Statement .ld_C_D := rfl
theorem ld_C_E : Statement .ld_C_E := rfl
theorem ld_C_H : Statement .ld_C_H := rfl
theorem ld_C_L : Statement .ld_C_L := rfl
theorem ld_C_atHL : Statement .ld_C_atHL := rfl
theorem ld_C_A : Statement .ld_C_A := rfl
theorem ld_D_B : Statement .ld_D_B := rfl
theorem ld_D_C : Statement .ld_D_C := rfl
theorem ld_D_D : Statement .ld_D_D := rfl
theorem ld_D_E : Statement .ld_D_E := rfl
theorem ld_D_H : Statement .ld_D_H := rfl
theorem ld_D_L : Statement .ld_D_L := rfl
theorem ld_D_atHL : Statement .ld_D_atHL := rfl
theorem ld_D_A : Statement .ld_D_A := rfl
theorem ld_E_B : Statement .ld_E_B := rfl
theorem ld_E_C : Statement .ld_E_C := rfl
theorem ld_E_D : Statement .ld_E_D := rfl
theorem ld_E_E : Statement .ld_E_E := rfl
theorem ld_E_H : Statement .ld_E_H := rfl
theorem ld_E_L : Statement .ld_E_L := rfl
theorem ld_E_atHL : Statement .ld_E_atHL := rfl
theorem ld_E_A : Statement .ld_E_A := rfl
theorem ld_H_B : Statement .ld_H_B := rfl
theorem ld_H_C : Statement .ld_H_C := rfl
theorem ld_H_D : Statement .ld_H_D := rfl
theorem ld_H_E : Statement .ld_H_E := rfl
theorem ld_H_H : Statement .ld_H_H := rfl
theorem ld_H_L : Statement .ld_H_L := rfl
theorem ld_H_atHL : Statement .ld_H_atHL := rfl
theorem ld_H_A : Statement .ld_H_A := rfl
theorem ld_L_B : Statement .ld_L_B := rfl
theorem ld_L_C : Statement .ld_L_C := rfl
theorem ld_L_D : Statement .ld_L_D := rfl
theorem ld_L_E : Statement .ld_L_E := rfl
theorem ld_L_H : Statement .ld_L_H := rfl
theorem ld_L_L : Statement .ld_L_L := rfl
theorem ld_L_atHL : Statement .ld_L_atHL := rfl
theorem ld_L_A : Statement .ld_L_A := rfl
theorem ld_atHL_B : Statement .ld_atHL_B := rfl
theorem ld_atHL_C : Statement .ld_atHL_C := rfl
theorem ld_atHL_D : Statement .ld_atHL_D := rfl
theorem ld_atHL_E : Statement .ld_atHL_E := rfl
theorem ld_atHL_H : Statement .ld_atHL_H := rfl
theorem ld_atHL_L : Statement .ld_atHL_L := rfl
theorem ld_atHL_A : Statement .ld_atHL_A := rfl
theorem ld_A_B : Statement .ld_A_B := rfl
theorem ld_A_C : Statement .ld_A_C := rfl
theorem ld_A_D : Statement .ld_A_D := rfl
theorem ld_A_E : Statement .ld_A_E := rfl
theorem ld_A_H : Statement .ld_A_H := rfl
theorem ld_A_L : Statement .ld_A_L := rfl
theorem ld_A_atHL : Statement .ld_A_atHL := rfl
theorem ld_A_A : Statement .ld_A_A := rfl
theorem add_A_B : Statement .add_A_B := rfl
theorem add_A_C : Statement .add_A_C := rfl
theorem add_A_D : Statement .add_A_D := rfl
theorem add_A_E : Statement .add_A_E := rfl
theorem add_A_H : Statement .add_A_H := rfl
theorem add_A_L : Statement .add_A_L := rfl
theorem add_A_atHL : Statement .add_A_atHL := rfl
theorem add_A_A : Statement .add_A_A := rfl
theorem adc_A_B : Statement .adc_A_B := rfl
theorem adc_A_C : Statement .adc_A_C := rfl
theorem adc_A_D : Statement .adc_A_D := rfl
theorem adc_A_E : Statement .adc_A_E := rfl
theorem adc_A_H : Statement .adc_A_H := rfl
theorem adc_A_L : Statement .adc_A_L := rfl
theorem adc_A_atHL : Statement .adc_A_atHL := rfl
theorem adc_A_A : Statement .adc_A_A := rfl
theorem sub_B : Statement .sub_B := rfl
theorem sub_C : Statement .sub_C := rfl
theorem sub_D : Statement .sub_D := rfl
theorem sub_E : Statement .sub_E := rfl
theorem sub_H : Statement .sub_H := rfl
theorem sub_L : Statement .sub_L := rfl
theorem sub_atHL : Statement .sub_atHL := rfl
theorem sub_A : Statement .sub_A := rfl
theorem and_B : Statement .and_B := rfl
theorem and_C : Statement .and_C := rfl
theorem and_D : Statement .and_D := rfl
theorem and_E : Statement .and_E := rfl
theorem and_H : Statement .and_H := rfl
theorem and_L : Statement .and_L := rfl
theorem and_atHL : Statement .and_atHL := rfl
theorem and_A : Statement .and_A := rfl
theorem xor_B : Statement .xor_B := rfl
theorem xor_C : Statement .xor_C := rfl
theorem xor_D : Statement .xor_D := rfl
theorem xor_E : Statement .xor_E := rfl
theorem xor_H : Statement .xor_H := rfl
theorem xor_L : Statement .xor_L := rfl
theorem xor_atHL : Statement .xor_atHL := rfl
theorem xor_A : Statement .xor_A := rfl
theorem or_B : Statement .or_B := rfl
theorem or_C : Statement .or_C := rfl
theorem or_D : Statement .or_D := rfl
theorem or_E : Statement .or_E := rfl
theorem or_H : Statement .or_H := rfl
theorem or_L : Statement .or_L := rfl
theorem or_atHL : Statement .or_atHL := rfl
theorem or_A : Statement .or_A := rfl
theorem cp_B : Statement .cp_B := rfl
theorem cp_C : Statement .cp_C := rfl
theorem cp_D : Statement .cp_D := rfl
theorem cp_E : Statement .cp_E := rfl
theorem cp_H : Statement .cp_H := rfl
theorem cp_L : Statement .cp_L := rfl
theorem cp_atHL : Statement .cp_atHL := rfl
theorem cp_A : Statement .cp_A := rfl
theorem ret_NZ : Statement .ret_NZ := rfl
theorem pop_BC : Statement .pop_BC := rfl
theorem jp_NZ_a16 (w : Word) : Statement (.jp_NZ_a16 w) := rfl
theorem jp_a16 (w : Word) : Statement (.jp_a16 w) := rfl
theorem call_NZ_a16 (w : Word) : Statement (.call_NZ_a16 w) := rfl
theorem push_BC : Statement .push_BC := rfl
theorem add_A_d8 (n : Byte) : Statement (.add_A_d8 n) := rfl
theorem ret_Z : Statement .ret_Z := rfl
theorem ret : Statement .ret := rfl
theorem jp_Z_a16 (w : Word) : Statement (.jp_Z_a16 w) := rfl
theorem call_Z_a16 (w : Word) : Statement (.call_Z_a16 w) := rfl
theorem call_a16 (w : Word) : Statement (.call_a16 w) := rfl
theorem adc_A_d8 (n : Byte) : Statement (.adc_A_d8 n) := rfl
theorem ret_NC : Statement .ret_NC := rfl
theorem pop_DE : Statement .pop_DE := rfl
theorem jp_NC_a16 (w : Word) : Statement (.jp_NC_a16 w) := rfl
theorem call_NC_a16 (w : Word) : Statement (.call_NC_a16 w) := rfl
theorem push_DE : Statement .push_DE := rfl
theorem sub_d8 (n : Byte) : Statement (.sub_d8 n) := rfl
theorem ret_C : Statement .ret_C := rfl
theorem reti : Statement .reti := rfl
theorem jp_C_a16 (w : Word) : Statement (.jp_C_a16 w) := rfl
theorem call_C_a16 (w : Word) : Statement (.call_C_a16 w) := rfl
theorem ldh_atA8_A (n : Byte) : Statement (.ldh_atA8_A n) := rfl
theorem pop_HL : Statement .pop_HL := rfl
theorem ld_atC_A : Statement .ld_atC_A := rfl
theorem push_HL : Statement .push_HL := rfl
theorem and_d8 (n : Byte) : Statement (.and_d8 n) := rfl
theorem add_SP_e8 (n : Byte) : Statement (.add_SP_e8 n) := rfl
theorem jp_atHL : Statement .jp_atHL := rfl
theorem ld_atA16_A (w : Word) : Statement (.ld_atA16_A w) := rfl
theorem xor_d8 (n : Byte) : Statement (.xor_d8 n) := rfl
theorem ldh_A_atA8 (n : Byte) : Statement (.ldh_A_atA8 n) := rfl
theorem pop_AF : Statement .pop_AF := rfl
theorem ld_A_atC : Statement .ld_A_atC := rfl
theorem di : Statement .di := rfl
theorem push_AF : Statement .push_AF := rfl
theorem or_d8 (n : Byte) : Statement (.or_d8 n) := rfl
theorem ld_HL_SPe8 (n : Byte) : Statement (.ld_HL_SPe8 n) := rfl
theorem ld_SP_HL : Statement .ld_SP_HL := rfl
theorem ld_A_atA16 (w : Word) : Statement (.ld_A_atA16 w) := rfl
theorem ei : Statement .ei := rfl
theorem cp_d8 (n : Byte) : Statement (.cp_d8 n) := rfl
theorem rl_B : Statement .rl_B := rfl
theorem rl_C : Statement .rl_C := rfl
theorem rl_D : Statement .rl_D := rfl
theorem rl_E : Statement .rl_E := rfl
theorem rl_H : Statement .rl_H := rfl
theorem rl_L : Statement .rl_L := rfl
theorem rl_A : Statement .rl_A := rfl
theorem swap_B : Statement .swap_B := rfl
theorem swap_C : Statement .swap_C := rfl
theorem swap_D : Statement .swap_D := rfl
theorem swap_E : Statement .swap_E := rfl
theorem swap_H : Statement .swap_H := rfl
theorem swap_L : Statement .swap_L := rfl
theorem swap_atHL : Statement .swap_atHL := rfl
theorem swap_A : Statement .swap_A := rfl
theorem bit_0_B : Statement .bit_0_B := rfl
theorem bit_0_C : Statement .bit_0_C := rfl
theorem bit_0_D : Statement .bit_0_D := rfl
theorem bit_0_E : Statement .bit_0_E := rfl
theorem bit_0_H : Statement .bit_0_H := rfl
theorem bit_0_L : Statement .bit_0_L := rfl
theorem bit_0_atHL : Statement .bit_0_atHL := rfl
theorem bit_0_A : Statement .bit_0_A := rfl
theorem bit_1_B : Statement .bit_1_B := rfl
theorem bit_1_C : Statement .bit_1_C := rfl
theorem bit_1_D : Statement .bit_1_D := rfl
theorem bit_1_E : Statement .bit_1_E := rfl
theorem bit_1_H : Statement .bit_1_H := rfl
theorem bit_1_L : Statement .bit_1_L := rfl
theorem bit_1_atHL : Statement .bit_1_atHL := rfl
theorem bit_1_A : Statement .bit_1_A := rfl
theorem bit_2_B : Statement .bit_2_B := rfl
theorem bit_2_C : Statement .bit_2_C := rfl
theorem bit_2_D : Statement .bit_2_D := rfl
theorem bit_2_E : Statement .bit_2_E := rfl
theorem bit_2_H : Statement .bit_2_H := rfl
theorem bit_2_L : Statement .bit_2_L := rfl
theorem bit_2_atHL : Statement .bit_2_atHL := rfl
theorem bit_2_A : Statement .bit_2_A := rfl
theorem bit_3_B : Statement .bit_3_B := rfl
theorem bit_3_C : Statement .bit_3_C := rfl
theorem bit_3_D : Statement .bit_3_D := rfl
theorem bit_3_E : Statement .bit_3_E := rfl
theorem bit_3_H : Statement .bit_3_H := rfl
theorem bit_3_L : Statement .bit_3_L := rfl
theorem bit_3_atHL : Statement .bit_3_atHL := rfl
theorem bit_3_A : Statement .bit_3_A := rfl
theorem bit_4_B : Statement .bit_4_B := rfl
theorem bit_4_C : Statement .bit_4_C := rfl
theorem bit_4_D : Statement .bit_4_D := rfl
theorem bit_4_E : Statement .bit_4_E := rfl
theorem bit_4_H : Statement .bit_4_H := rfl
theorem bit_4_L : Statement .bit_4_L := rfl
theorem bit_4_atHL : Statement .bit_4_atHL := rfl
theorem bit_4_A : Statement .bit_4_A := rfl
theorem bit_5_B : Statement .bit_5_B := rfl
theorem bit_5_C : Statement .bit_5_C := rfl
theorem bit_5_D : Statement .bit_5_D := rfl
theorem bit_5_E : Statement .bit_5_E := rfl
theorem bit_5_H : Statement .bit_5_H := rfl
theorem bit_5_L : Statement .bit_5_L := rfl
theorem bit_5_atHL : Statement .bit_5_atHL := rfl
theorem bit_5_A : Statement .bit_5_A := rfl
theorem bit_6_B : Statement .bit_6_B := rfl
theorem bit_6_C : Statement .bit_6_C := rfl
theorem bit_6_D : Statement .bit_6_D := rfl
theorem bit_6_E : Statement .bit_6_E := rfl
theorem bit_6_H : Statement .bit_6_H := rfl
theorem bit_6_L : Statement .bit_6_L := rfl
theorem bit_6_atHL : Statement .bit_6_atHL := rfl
theorem bit_6_A : Statement .bit_6_A := rfl
theorem bit_7_B : Statement .bit_7_B := rfl
theorem bit_7_C : Statement .bit_7_C := rfl
theorem bit_7_D : Statement .bit_7_D := rfl
theorem bit_7_E : Statement .bit_7_E := rfl
theorem bit_7_H : Statement .bit_7_H := rfl
theorem bit_7_L : Statement .bit_7_L := rfl
theorem bit_7_atHL : Statement .bit_7_atHL := rfl
theorem bit_7_A : Statement .bit_7_A := rfl

end Sys2Proof.Laws.EncodedLength
end

