-- ==== Sys2Proof/Laws/Ppu.lean ====
section
/-! SUPPORT. One lemma for each PPU operation that says what it changes and what it keeps (61_ppu.md). -/

namespace Sys2Proof.Machine

/-! ### The render of a line -/

@[simp] theorem State.renderLine_cpu (s : State) (y : Nat) : (s.renderLine y).cpu = s.cpu := rfl
@[simp] theorem State.renderLine_mem (s : State) (y : Nat) : (s.renderLine y).mem = s.mem := rfl
@[simp] theorem State.renderLine_apu (s : State) (y : Nat) : (s.renderLine y).apu = s.apu := rfl
@[simp] theorem State.renderLine_samples (s : State) (y : Nat) : (s.renderLine y).samples = s.samples := rfl
@[simp] theorem State.renderLine_cfg (s : State) (y : Nat) : (s.renderLine y).cfg = s.cfg := rfl
@[simp] theorem State.renderLine_cycles (s : State) (y : Nat) : (s.renderLine y).cycles = s.cycles := rfl
@[simp] theorem State.renderLine_acc (s : State) (y : Nat) : (s.renderLine y).ppu.acc = s.ppu.acc := rfl
@[simp] theorem State.renderLine_palette (s : State) (y : Nat) : (s.renderLine y).ppu.palette = s.ppu.palette := rfl
@[simp] theorem State.memRead_renderLine (s : State) (y : Nat) (b : Word) : (s.renderLine y).memRead b = s.memRead b := rfl

/-- A render fills the row it is given with the pixels of that row and keeps every other row (61_ppu.md R308). -/
theorem State.renderLine_row (s : State) (y : Nat) (r : Fin 144) :
    (s.renderLine y).ppu.fb.get r = if r.val = y then Vector.ofFn (fun x => s.pixel x.val y) else s.ppu.fb.get r := by
  obtain ⟨r, hr⟩ := r
  show (s.ppu.fb.setIfInBounds y _)[r] = if r = y then _ else s.ppu.fb[r]
  rw [Vector.getElem_setIfInBounds hr]
  by_cases h : y = r
  · simp [h]
  · simp [h, Ne.symm h]

theorem FbRow.get_ofFn (f : Fin 160 → Shade) (x : Fin 160) : (Vector.ofFn f).get x = f x := by
  obtain ⟨x, hx⟩ := x
  show (Vector.ofFn f)[x] = f ⟨x, hx⟩
  exact Vector.getElem_ofFn hx

/-! ### One crossing -/

/-- The line that follows in LY (61_ppu.md R305). -/
def State.nextLy (s : State) : Nat := ((s.memRead addrLy).toNat + 1) % 154

/-- A crossing keeps everything but LY's byte and the framebuffer (61_ppu.md R305). -/
theorem State.nextLine_frame (s : State) :
    s.nextLine.cpu = s.cpu ∧ s.nextLine.apu = s.apu ∧ s.nextLine.samples = s.samples ∧ s.nextLine.cfg = s.cfg ∧
    s.nextLine.cycles = s.cycles ∧ s.nextLine.ppu.acc = s.ppu.acc ∧ s.nextLine.ppu.palette = s.ppu.palette := by
  unfold State.nextLine
  dsimp only
  split <;> simp

@[simp] theorem State.nextLine_cpu (s : State) : s.nextLine.cpu = s.cpu := s.nextLine_frame.1
@[simp] theorem State.nextLine_apu (s : State) : s.nextLine.apu = s.apu := s.nextLine_frame.2.1
@[simp] theorem State.nextLine_samples (s : State) : s.nextLine.samples = s.samples := s.nextLine_frame.2.2.1
@[simp] theorem State.nextLine_cfg (s : State) : s.nextLine.cfg = s.cfg := s.nextLine_frame.2.2.2.1
@[simp] theorem State.nextLine_cycles (s : State) : s.nextLine.cycles = s.cycles := s.nextLine_frame.2.2.2.2.1
@[simp] theorem State.nextLine_acc (s : State) : s.nextLine.ppu.acc = s.ppu.acc := s.nextLine_frame.2.2.2.2.2.1
@[simp] theorem State.nextLine_palette (s : State) : s.nextLine.ppu.palette = s.ppu.palette := s.nextLine_frame.2.2.2.2.2.2

/-- The memory after a crossing: one plain store to LY. -/
theorem State.nextLine_mem (s : State) : s.nextLine.mem = (s.plainWrite addrLy (BitVec.ofNat 8 s.nextLy)).mem := by
  unfold State.nextLine State.nextLy
  dsimp only
  split <;> simp

theorem State.memRead_nextLine (s : State) (b : Word) :
    s.nextLine.memRead b = if b = addrLy then BitVec.ofNat 8 s.nextLy else s.memRead b := by
  rw [State.memRead_congr s.nextLine_mem, State.memRead_plainWrite]

/-- The framebuffer after a crossing: row n − 1 when the new line n is visible (61_ppu.md R306). -/
theorem State.nextLine_fb (s : State) :
    s.nextLine.ppu.fb = if 1 ≤ s.nextLy ∧ s.nextLy ≤ 144
      then ((s.plainWrite addrLy (BitVec.ofNat 8 s.nextLy)).renderLine (s.nextLy - 1)).ppu.fb else s.ppu.fb := by
  unfold State.nextLine State.nextLy
  dsimp only
  split <;> simp

/-! ### The tick -/

theorem State.nextLines_frame (s : State) (k : Nat) :
    (s.nextLines k).cpu = s.cpu ∧ (s.nextLines k).apu = s.apu ∧ (s.nextLines k).samples = s.samples ∧
    (s.nextLines k).cfg = s.cfg ∧ (s.nextLines k).cycles = s.cycles ∧ (s.nextLines k).ppu.acc = s.ppu.acc ∧
    (s.nextLines k).ppu.palette = s.ppu.palette := by
  induction k generalizing s with
  | zero => simp [State.nextLines]
  | succ k ih => simp [State.nextLines, ih s.nextLine]

/-- Crossings change LY's byte and no other. -/
theorem State.memRead_nextLines_of_ne (s : State) (k : Nat) (b : Word) (h : b ≠ addrLy) :
    (s.nextLines k).memRead b = s.memRead b := by
  induction k generalizing s with
  | zero => rfl
  | succ k ih => rw [State.nextLines, ih, State.memRead_nextLine, if_neg h]

/-- The tick keeps everything but LY's byte, the accumulator and the framebuffer (61_ppu.md R304, R305). -/
theorem State.ppuTick_frame (s : State) (n : Nat) :
    (s.ppuTick n).cpu = s.cpu ∧ (s.ppuTick n).apu = s.apu ∧ (s.ppuTick n).samples = s.samples ∧
    (s.ppuTick n).cfg = s.cfg ∧ (s.ppuTick n).cycles = s.cycles ∧ (s.ppuTick n).ppu.palette = s.ppu.palette := by
  unfold State.ppuTick
  split
  · obtain ⟨h1, h2, h3, h4, h5, -, h7⟩ :=
      (s.setAcc (Fin.ofNat 456 (s.ppu.acc.val + n))).nextLines_frame ((s.ppu.acc.val + n) / 456)
    exact ⟨h1, h2, h3, h4, h5, h7⟩
  · simp

@[simp] theorem State.ppuTick_cpu (s : State) (n : Nat) : (s.ppuTick n).cpu = s.cpu := (s.ppuTick_frame n).1
@[simp] theorem State.ppuTick_apu (s : State) (n : Nat) : (s.ppuTick n).apu = s.apu := (s.ppuTick_frame n).2.1
@[simp] theorem State.ppuTick_samples (s : State) (n : Nat) : (s.ppuTick n).samples = s.samples := (s.ppuTick_frame n).2.2.1
@[simp] theorem State.ppuTick_cfg (s : State) (n : Nat) : (s.ppuTick n).cfg = s.cfg := (s.ppuTick_frame n).2.2.2.1
@[simp] theorem State.ppuTick_cycles (s : State) (n : Nat) : (s.ppuTick n).cycles = s.cycles := (s.ppuTick_frame n).2.2.2.2.1
@[simp] theorem State.ppuTick_palette (s : State) (n : Nat) : (s.ppuTick n).ppu.palette = s.ppu.palette :=
  (s.ppuTick_frame n).2.2.2.2.2

theorem State.memRead_ppuTick_of_ne (s : State) (n : Nat) (b : Word) (h : b ≠ addrLy) :
    (s.ppuTick n).memRead b = s.memRead b := by
  unfold State.ppuTick
  split
  · exact State.memRead_nextLines_of_ne _ _ b h
  · rw [State.memRead_plainWrite, if_neg h]

theorem State.wf_nextLines {s : State} (h : s.mem.wf) (k : Nat) : (s.nextLines k).mem.wf := by
  induction k generalizing s with
  | zero => exact h
  | succ k ih => exact ih (by rw [State.nextLine_mem]; exact State.wf_plainWrite h _ _)

/-- The PPU tick keeps the canonical form of the memory. -/
theorem State.wf_ppuTick {s : State} (h : s.mem.wf) (n : Nat) : (s.ppuTick n).mem.wf := by
  unfold State.ppuTick
  split
  · exact State.wf_nextLines (by simpa using h) _
  · exact State.wf_plainWrite h _ _

end Sys2Proof.Machine
end

