-- ==== Sys2Proof/Laws/Step.lean ====
section
/-! SUPPORT. What the meaning of any instruction and the step of the machine leave unchanged, and the step by its cases. -/

namespace Sys2Proof.Machine

/-! ### Any instruction -/

@[simp] theorem State.aluWith_mem (s : State) (op : Alu) (v : Byte) : (s.aluWith op v).mem = s.mem := by cases op <;> rfl
@[simp] theorem State.aluWith_ppu (s : State) (op : Alu) (v : Byte) : (s.aluWith op v).ppu = s.ppu := by cases op <;> rfl
@[simp] theorem State.aluWith_apu (s : State) (op : Alu) (v : Byte) : (s.aluWith op v).apu = s.apu := by cases op <;> rfl
@[simp] theorem State.aluWith_samples (s : State) (op : Alu) (v : Byte) : (s.aluWith op v).samples = s.samples := by
  cases op <;> rfl
@[simp] theorem State.aluWith_cfg (s : State) (op : Alu) (v : Byte) : (s.aluWith op v).cfg = s.cfg := by cases op <;> rfl

/-- No instruction touches the configuration, the APU, the samples, the accumulator or the framebuffer: the devices move only in
their ticks (50_cpu_driver.md R252). -/
theorem Form.run_devices (f : Form) (s : State) :
    (Form.run f s).cfg = s.cfg ∧ (Form.run f s).apu = s.apu ∧ (Form.run f s).samples = s.samples ∧
    (Form.run f s).ppu.acc = s.ppu.acc ∧ (Form.run f s).ppu.fb = s.ppu.fb := by
  cases f with
  | jrCond cc e => simp only [Form.run, jrCond]; split <;> simp
  | jpCond cc w => simp only [Form.run, jpCond]; split <;> simp
  | callCond cc w => simp only [Form.run, callCond]; split <;> simp
  | retCond cc => simp only [Form.run, retCond, State.dropTop]; split <;> simp
  | pop q => cases q <;> simp [Form.run, pop, State.dropTop]
  | _ => simp [Form.run, nop, ldRegReg, ldRegInd, ldIndReg, ldRegImm, ldIndImm, ldPairIndA, ldAPairInd, ldIndIncA, ldIndDecA,
      ldAIndInc, ldAIndDec, ldhConstA, ldhAConst, ldHighRegA, ldAHighReg, ldAbsA, ldAAbs, ldPairImm, ldAbsSp, ldSpHl, ldHlSpDisp,
      aluReg, aluInd, aluImm, addHl, incReg, incInd, decReg, decInd, incPair, decPair, bitReg, bitInd, rlReg, rla, jr, jp, jpHl, call,
      ret, reti, push, addSp, cpl, scf, ei, di, swapReg, swapInd, State.storeHl, State.incHl, State.decHl, State.dropTop]

/-- Every instruction keeps the canonical form of the memory. -/
theorem Form.wf_run (f : Form) {s : State} (h : s.mem.wf) : (Form.run f s).mem.wf := by
  cases f with
  | jrCond cc e => simp only [Form.run, jrCond]; split <;> simpa using h
  | jpCond cc w => simp only [Form.run, jpCond]; split <;> simpa using h
  | callCond cc w =>
    simp only [Form.run, callCond]; split
    · simpa using State.wf_push16 h _
    · simpa using h
  | retCond cc => simp only [Form.run, retCond, State.dropTop]; split <;> simpa using h
  | pop q => cases q <;> simpa [Form.run, pop, State.dropTop] using h
  | call w => simpa [Form.run, call] using State.wf_push16 h _
  | push q => simpa [Form.run, push] using State.wf_push16 h _
  | ldAbsSp w => simpa [Form.run, ldAbsSp] using State.wf_memWrite (State.wf_memWrite h _ _) _ _
  | ldIndReg r => simpa [Form.run, ldIndReg, State.storeHl] using State.wf_memWrite h _ _
  | ldIndImm n => simpa [Form.run, ldIndImm, State.storeHl] using State.wf_memWrite h _ _
  | ldPairIndA p => simpa [Form.run, ldPairIndA] using State.wf_memWrite h _ _
  | ldIndIncA => simpa [Form.run, ldIndIncA, State.storeHl, State.incHl] using State.wf_memWrite h _ _
  | ldIndDecA => simpa [Form.run, ldIndDecA, State.storeHl, State.decHl] using State.wf_memWrite h _ _
  | ldhConstA n => simpa [Form.run, ldhConstA] using State.wf_memWrite h _ _
  | ldHighRegA => simpa [Form.run, ldHighRegA] using State.wf_memWrite h _ _
  | ldAbsA w => simpa [Form.run, ldAbsA] using State.wf_memWrite h _ _
  | incInd => simpa [Form.run, incInd, State.storeHl] using State.wf_memWrite h _ _
  | decInd => simpa [Form.run, decInd, State.storeHl] using State.wf_memWrite h _ _
  | swapInd => simpa [Form.run, swapInd, State.storeHl] using State.wf_memWrite h _ _
  | _ => simpa [Form.run, nop, ldRegReg, ldRegInd, ldRegImm, ldAPairInd, ldAIndInc, ldAIndDec, ldhAConst, ldAHighReg, ldAAbs,
      ldPairImm, ldSpHl, ldHlSpDisp, aluReg, aluInd, aluImm, addHl, incReg, decReg, incPair, decPair, bitReg, bitInd, rlReg, rla, jr, jp,
      jpHl, ret, reti, addSp, cpl, scf, ei, di, swapReg, State.incHl, State.decHl, State.dropTop] using h

/-- With a well-formed configuration every instruction reports at least 4 cycles (50_cpu_driver.md R250). -/
theorem cyclesOf_ge (cfg : Config) (h : cfg.wellFormed = true) (k : CycleKey) : 4 ≤ cfg.cyclesOf k := by
  have hall : ∀ o ∈ cfg.cycleOverrides, 4 ≤ o.2 := by
    simp only [Config.wellFormed, Bool.and_eq_true, List.all_eq_true, decide_eq_true_eq] at h
    exact h.2
  unfold Config.cyclesOf
  generalize cfg.cycleOverrides = l at hall
  induction l with
  | nil =>
    simp only [List.lookup_nil, Option.getD_none]
    cases k <;> first | decide | (rename_i op; cases op <;> decide)
  | cons o l ih =>
    obtain ⟨a, b⟩ := o
    rw [List.lookup_cons]
    split
    · exact hall (a, b) (by simp)
    · exact ih fun o ho => hall o (by simp [ho])

theorem Form.run_cycles (f : Form) (s : State) : ∃ k, (Form.run f s).cycles = s.cfg.cyclesOf k := by
  cases f with
  | jrCond cc e => simp only [Form.run, jrCond]; split <;> exact ⟨_, by simp; rfl⟩
  | jpCond cc w => simp only [Form.run, jpCond]; split <;> exact ⟨_, by simp; rfl⟩
  | callCond cc w => simp only [Form.run, callCond]; split <;> exact ⟨_, by simp; rfl⟩
  | retCond cc => simp only [Form.run, retCond, State.dropTop]; split <;> exact ⟨_, by simp; rfl⟩
  | pop q => cases q <;> exact ⟨_, by simp [Form.run, pop, State.dropTop]; rfl⟩
  | _ => exact ⟨_, by simp [Form.run, nop, ldRegReg, ldRegInd, ldIndReg, ldRegImm, ldIndImm, ldPairIndA, ldAPairInd, ldIndIncA,
      ldIndDecA, ldAIndInc, ldAIndDec, ldhConstA, ldhAConst, ldHighRegA, ldAHighReg, ldAbsA, ldAAbs, ldPairImm, ldAbsSp, ldSpHl,
      ldHlSpDisp, aluReg, aluInd, aluImm, addHl, incReg, incInd, decReg, decInd, incPair, decPair, bitReg, bitInd, rlReg, rla, jr, jp,
      jpHl, call, ret, reti, push, addSp, cpl, scf, ei, di, swapReg, swapInd, State.storeHl, State.incHl, State.decHl,
      State.dropTop]; rfl⟩

/-! ### The step by its cases -/

/-- The state after an instruction has run and the EI delay is applied, before the devices. -/
def State.afterInstr (s : State) (i : Instr) : State := (Form.run i.form (s.advancePc i.size)).applyEiDelay

theorem runInstr_eq (i : Instr) (s : State) : runInstr i s = .next (s.afterInstr i) := by
  simp only [runInstr, exec_eq_run, State.afterInstr]

/-- A step whose decode gives an instruction. -/
theorem step_of_ok {s : State} {i : Instr} (h : decodeAt s.cpu.pc s.mem = .ok i) :
    step s = .next (s.afterInstr i).tickDevices := by
  simp only [step, systemStep, cpuStep, h, runInstr_eq]

/-- All a step can do: run the instruction it decodes, or stop with the DecodeError of its decode. -/
theorem step_cases (s : State) :
    (∃ i, decodeAt s.cpu.pc s.mem = .ok i ∧ step s = .next (s.afterInstr i).tickDevices) ∨
    (∃ v, decodeAt s.cpu.pc s.mem = .unknownOpcode v ∧ step s = .fault (.decodeError .unknownOpcode s.cpu.pc v)) ∨
    (∃ v, decodeAt s.cpu.pc s.mem = .unknownPrefixedOpcode v ∧
      step s = .fault (.decodeError .unknownPrefixedOpcode s.cpu.pc v)) ∨
    (∃ v, decodeAt s.cpu.pc s.mem = .outOfRange v ∧ step s = .fault (.decodeError .outOfRange s.cpu.pc v)) := by
  cases h : decodeAt s.cpu.pc s.mem with
  | ok i => exact .inl ⟨i, rfl, step_of_ok h⟩
  | unknownOpcode v => exact .inr (.inl ⟨v, rfl, by simp only [step, systemStep, cpuStep, h, decodeFault]⟩)
  | unknownPrefixedOpcode v => exact .inr (.inr (.inl ⟨v, rfl, by simp only [step, systemStep, cpuStep, h, decodeFault]⟩))
  | outOfRange v => exact .inr (.inr (.inr ⟨v, rfl, by simp only [step, systemStep, cpuStep, h, decodeFault]⟩))

theorem step_next {s t : State} (h : step s = .next t) :
    ∃ i, decodeAt s.cpu.pc s.mem = .ok i ∧ t = (s.afterInstr i).tickDevices := by
  rcases step_cases s with ⟨i, hi, hs⟩ | ⟨v, -, hs⟩ | ⟨v, -, hs⟩ | ⟨v, -, hs⟩
  · exact ⟨i, hi, by rw [hs] at h; exact (Host.Outcome.next.inj h).symm⟩
  all_goals rw [hs] at h; cases h

@[simp] theorem State.tickDevices_cpu (s : State) : s.tickDevices.cpu = s.cpu := by simp [State.tickDevices]
@[simp] theorem State.tickDevices_cfg (s : State) : s.tickDevices.cfg = s.cfg := by simp [State.tickDevices]
@[simp] theorem State.tickDevices_cycles (s : State) : s.tickDevices.cycles = s.cycles := by simp [State.tickDevices]

@[simp] theorem State.afterInstr_cfg (s : State) (i : Instr) : (s.afterInstr i).cfg = s.cfg := by
  simp [State.afterInstr, (Form.run_devices _ _).1]
@[simp] theorem State.afterInstr_apu (s : State) (i : Instr) : (s.afterInstr i).apu = s.apu := by
  simp [State.afterInstr, (Form.run_devices _ _).2.1]
@[simp] theorem State.afterInstr_samples (s : State) (i : Instr) : (s.afterInstr i).samples = s.samples := by
  simp [State.afterInstr, (Form.run_devices _ _).2.2.1]

end Sys2Proof.Machine
end

