-- ==== Sys2Proof/Machine/Disasm.lean ====
section
/-! DEFINITION. The disassembly calls and their text (50_cpu_driver.md R263, R264). They read memory and change no state. -/

namespace Sys2Proof.Machine

/-- An uppercase hexadecimal digit. -/
def hexDigit (n : Nat) : String := ["0", "1", "2", "3", "4", "5", "6", "7", "8", "9", "A", "B", "C", "D", "E", "F"].getD n ""

/-- `d8` and `a8`: 0x and two uppercase hex digits (50_cpu_driver.md R264). -/
def hexByte (v : Byte) : String := "0x" ++ hexDigit (v.toNat / 16) ++ hexDigit (v.toNat % 16)

/-- `d16` and `a16`: 0x and four uppercase hex digits (50_cpu_driver.md R264). -/
def hexWord (w : Word) : String :=
  "0x" ++ hexDigit (w.toNat / 4096) ++ hexDigit (w.toNat / 256 % 16) ++ hexDigit (w.toNat / 16 % 16) ++ hexDigit (w.toNat % 16)

/-- `e8`: a signed decimal with an explicit sign (50_cpu_driver.md R264). -/
def signedText (e : Byte) : String :=
  if e.toNat < 128 then "+" ++ Nat.repr e.toNat else "-" ++ Nat.repr (256 - e.toNat)

/-- The name of an 8-bit register (30_encoding.md R94). -/
def regText : Reg → String
  | .b => "B"
  | .c => "C"
  | .d => "D"
  | .e => "E"
  | .h => "H"
  | .l => "L"
  | .a => "A"

/-- The name of a 16-bit register (30_encoding.md R94). -/
def reg16Text : Reg16 → String
  | .af => "AF"
  | .bc => "BC"
  | .de => "DE"
  | .hl => "HL"
  | .sp => "SP"
  | .pc => "PC"

/-- The name of a condition (30_encoding.md R94). -/
def condText : Cond → String
  | .nz => "NZ"
  | .z => "Z"
  | .nc => "NC"
  | .c => "C"

/-- The mark of a post-adjustment (30_encoding.md R94). -/
def adjustText : Adjust → String
  | .none => ""
  | .inc => "+"
  | .dec => "-"

/-- An argument in the syntax of 30_encoding.md R94, with its value in place of the operand's name (50_cpu_driver.md R264). -/
def argText : Arg → String
  | .reg8 r => regText r
  | .reg16 r => reg16Text r
  | .indirect r adj => "(" ++ reg16Text r ++ adjustText adj ++ ")"
  | .imm8 n => hexByte n
  | .imm16 w => hexWord w
  | .highConst n => "(" ++ hexByte n ++ ")"
  | .highReg => "(C)"
  | .label w => hexWord w
  | .atLabel w => "(" ++ hexWord w ++ ")"
  | .disp e => signedText e
  | .spDisp e => "SP" ++ signedText e
  | .cond cc => condText cc
  | .bit b => Nat.repr b.val

/-- Arguments with a comma and no space between them (50_cpu_driver.md R264). -/
def argsText : List Arg → String
  | [] => ""
  | [x] => argText x
  | x :: xs => argText x ++ "," ++ argsText xs

/-- The text of an instruction: one space after the mnemonic (50_cpu_driver.md R264). -/
def instrText (i : Instr) : String :=
  match i.shape.args with
  | [] => i.shape.name
  | args => i.shape.name ++ " " ++ argsText args

/-- `text(a)`: the instruction decoded at a, or the placeholder (50_cpu_driver.md R263). -/
def State.textAt (s : State) (a : Word) : String :=
  match decodeAt a s.mem with
  | .ok i => instrText i
  | _ => "unknown instruction"

/-- The next address of a listing: on by the decoded size, or by 1 when the decode fails (50_cpu_driver.md R263). -/
def State.nextAddr (s : State) (a : Word) : Word :=
  match decodeAt a s.mem with
  | .ok i => a + BitVec.ofNat 16 i.size
  | _ => a + 1

/-- `a_n`, the n-th instruction address from PC on (50_cpu_driver.md R263). -/
def State.listingAddr (s : State) : Nat → Word
  | 0 => s.cpu.pc
  | n + 1 => s.nextAddr (s.listingAddr n)

/-- `getCurrentInstructionText()` (50_cpu_driver.md R263). -/
def State.getCurrentInstructionText (s : State) : String := s.textAt s.cpu.pc

/-- `getInstructionAtOffset(n)` (50_cpu_driver.md R263). -/
def State.getInstructionAtOffset (s : State) (n : Nat) : String := s.textAt (s.listingAddr n)

/-- `getOpcodeWithOffset(n)` (50_cpu_driver.md R263). -/
def State.getOpcodeWithOffset (s : State) (n : Nat) : String × Word := (s.textAt (s.listingAddr n), s.listingAddr n)

end Sys2Proof.Machine
end

