-- ==== Sys2Proof/Tests/Slice0.lean ====
section
/-! SUPPORT. The model's own tests and the witnesses of its statements. Every expected result is the spec's: the opcode maps of
30_encoding.md, the vectors of 95_test_vectors.md, or hand calculation from the rule a test names. -/

namespace Sys2Proof.Tests

set_option Elab.async false

open Sys2Proof.Machine

/-- Each opcode, followed by the bytes 0x34 and 0x12, decodes to the result beside it. -/
abbrev DecodesTo (rows : List (Byte × DecodeResult)) : Prop := ∀ r ∈ rows, decodeBytes r.1 [0x34, 0x12] = r.2

/-- Each byte after the prefix decodes to the result beside it. -/
abbrev DecodesToPrefixed (rows : List (Byte × DecodeResult)) : Prop := ∀ r ∈ rows, decodeBytes 0xCB [r.1] = r.2

/-- The reset state with other registers and memory bytes. -/
def start (cpu : Cpu) (mem : Memory) : State := { State.reset with cpu := cpu, mem := mem }

/-- The two register files hold the same values. -/
def SameCpu (x y : Cpu) : Bool :=
  x.a == y.a && x.b == y.b && x.c == y.c && x.d == y.d && x.e == y.e && x.h == y.h && x.l == y.l && x.flags == y.flags &&
    x.sp == y.sp && x.pc == y.pc && x.ime == y.ime && x.eiDelay == y.eiDelay

/-- One CPU step leaves these registers and bytes and reports this count. -/
def RunsTo (s : State) (cpu : Cpu) (bytes : List (Word × Byte)) (cycles : Nat) : Bool :=
  match cpuStep s with
  | .next t => SameCpu t.cpu cpu && bytes.all (fun b => t.memRead b.1 == b.2) && t.cycles == cycles
  | _ => false

/-- One CPU step stops with this fault. -/
def FaultsWith (s : State) (f : Fault) : Bool :=
  match cpuStep s with
  | .fault g => decide (g = f)
  | _ => false

/-! ## Decoding: the opcode maps of 30_encoding.md R90 and R91, row by row, with the bytes 0x34, 0x12 after the opcode -/

theorem test_decode_row_0x : DecodesTo
    [(0x00, .ok .nop), (0x01, .ok (.ld_BC_d16 0x1234)), (0x02, .ok .ld_atBC_A), (0x03, .ok .inc_BC), (0x04, .ok .inc_B),
     (0x05, .ok .dec_B), (0x06, .ok (.ld_B_d8 0x34)), (0x07, .unknownOpcode 0x07), (0x08, .ok (.ld_atA16_SP 0x1234)),
     (0x09, .ok .add_HL_BC), (0x0A, .ok .ld_A_atBC), (0x0B, .ok .dec_BC), (0x0C, .ok .inc_C), (0x0D, .ok .dec_C),
     (0x0E, .ok (.ld_C_d8 0x34)), (0x0F, .unknownOpcode 0x0F)] := by decide

theorem test_decode_row_1x : DecodesTo
    [(0x10, .unknownOpcode 0x10), (0x11, .ok (.ld_DE_d16 0x1234)), (0x12, .ok .ld_atDE_A), (0x13, .ok .inc_DE), (0x14, .ok .inc_D),
     (0x15, .ok .dec_D), (0x16, .ok (.ld_D_d8 0x34)), (0x17, .ok .rla), (0x18, .ok (.jr_e8 0x34)), (0x19, .ok .add_HL_DE),
     (0x1A, .ok .ld_A_atDE), (0x1B, .ok .dec_DE), (0x1C, .ok .inc_E), (0x1D, .ok .dec_E), (0x1E, .ok (.ld_E_d8 0x34)),
     (0x1F, .unknownOpcode 0x1F)] := by decide

theorem test_decode_row_2x : DecodesTo
    [(0x20, .ok (.jr_NZ_e8 0x34)), (0x21, .ok (.ld_HL_d16 0x1234)), (0x22, .ok .ld_atHLinc_A), (0x23, .ok .inc_HL), (0x24, .ok .inc_H),
     (0x25, .ok .dec_H), (0x26, .ok (.ld_H_d8 0x34)), (0x27, .unknownOpcode 0x27), (0x28, .ok (.jr_Z_e8 0x34)), (0x29, .ok .add_HL_HL),
     (0x2A, .ok .ld_A_atHLinc), (0x2B, .ok .dec_HL), (0x2C, .ok .inc_L), (0x2D, .ok .dec_L), (0x2E, .ok (.ld_L_d8 0x34)), (0x2F, .ok .cpl)] := by decide

theorem test_decode_row_3x : DecodesTo
    [(0x30, .ok (.jr_NC_e8 0x34)), (0x31, .ok (.ld_SP_d16 0x1234)), (0x32, .ok .ld_atHLdec_A), (0x33, .ok .inc_SP), (0x34, .ok .inc_atHL),
     (0x35, .ok .dec_atHL), (0x36, .ok (.ld_atHL_d8 0x34)), (0x37, .ok .scf), (0x38, .ok (.jr_C_e8 0x34)), (0x39, .ok .add_HL_SP),
     (0x3A, .ok .ld_A_atHLdec), (0x3B, .ok .dec_SP), (0x3C, .ok .inc_A), (0x3D, .ok .dec_A), (0x3E, .ok (.ld_A_d8 0x34)),
     (0x3F, .unknownOpcode 0x3F)] := by decide

theorem test_decode_row_4x : DecodesTo
    [(0x40, .ok .ld_B_B), (0x41, .ok .ld_B_C), (0x42, .ok .ld_B_D), (0x43, .ok .ld_B_E), (0x44, .ok .ld_B_H), (0x45, .ok .ld_B_L),
     (0x46, .ok .ld_B_atHL), (0x47, .ok .ld_B_A), (0x48, .ok .ld_C_B), (0x49, .ok .ld_C_C), (0x4A, .ok .ld_C_D), (0x4B, .ok .ld_C_E),
     (0x4C, .ok .ld_C_H), (0x4D, .ok .ld_C_L), (0x4E, .ok .ld_C_atHL), (0x4F, .ok .ld_C_A)] := by decide

theorem test_decode_row_5x : DecodesTo
    [(0x50, .ok .ld_D_B), (0x51, .ok .ld_D_C), (0x52, .ok .ld_D_D), (0x53, .ok .ld_D_E), (0x54, .ok .ld_D_H), (0x55, .ok .ld_D_L),
     (0x56, .ok .ld_D_atHL), (0x57, .ok .ld_D_A), (0x58, .ok .ld_E_B), (0x59, .ok .ld_E_C), (0x5A, .ok .ld_E_D), (0x5B, .ok .ld_E_E),
     (0x5C, .ok .ld_E_H), (0x5D, .ok .ld_E_L), (0x5E, .ok .ld_E_atHL), (0x5F, .ok .ld_E_A)] := by decide

theorem test_decode_row_6x : DecodesTo
    [(0x60, .ok .ld_H_B), (0x61, .ok .ld_H_C), (0x62, .ok .ld_H_D), (0x63, .ok .ld_H_E), (0x64, .ok .ld_H_H), (0x65, .ok .ld_H_L),
     (0x66, .ok .ld_H_atHL), (0x67, .ok .ld_H_A), (0x68, .ok .ld_L_B), (0x69, .ok .ld_L_C), (0x6A, .ok .ld_L_D), (0x6B, .ok .ld_L_E),
     (0x6C, .ok .ld_L_H), (0x6D, .ok .ld_L_L), (0x6E, .ok .ld_L_atHL), (0x6F, .ok .ld_L_A)] := by decide

theorem test_decode_row_7x : DecodesTo
    [(0x70, .ok .ld_atHL_B), (0x71, .ok .ld_atHL_C), (0x72, .ok .ld_atHL_D), (0x73, .ok .ld_atHL_E), (0x74, .ok .ld_atHL_H),
     (0x75, .ok .ld_atHL_L), (0x76, .unknownOpcode 0x76), (0x77, .ok .ld_atHL_A), (0x78, .ok .ld_A_B), (0x79, .ok .ld_A_C),
     (0x7A, .ok .ld_A_D), (0x7B, .ok .ld_A_E), (0x7C, .ok .ld_A_H), (0x7D, .ok .ld_A_L), (0x7E, .ok .ld_A_atHL), (0x7F, .ok .ld_A_A)] := by decide

theorem test_decode_row_8x : DecodesTo
    [(0x80, .ok .add_A_B), (0x81, .ok .add_A_C), (0x82, .ok .add_A_D), (0x83, .ok .add_A_E), (0x84, .ok .add_A_H), (0x85, .ok .add_A_L),
     (0x86, .ok .add_A_atHL), (0x87, .ok .add_A_A), (0x88, .ok .adc_A_B), (0x89, .ok .adc_A_C), (0x8A, .ok .adc_A_D),
     (0x8B, .ok .adc_A_E), (0x8C, .ok .adc_A_H), (0x8D, .ok .adc_A_L), (0x8E, .ok .adc_A_atHL), (0x8F, .ok .adc_A_A)] := by decide

theorem test_decode_row_9x : DecodesTo
    [(0x90, .ok .sub_B), (0x91, .ok .sub_C), (0x92, .ok .sub_D), (0x93, .ok .sub_E), (0x94, .ok .sub_H), (0x95, .ok .sub_L),
     (0x96, .ok .sub_atHL), (0x97, .ok .sub_A), (0x98, .unknownOpcode 0x98), (0x99, .unknownOpcode 0x99), (0x9A, .unknownOpcode 0x9A),
     (0x9B, .unknownOpcode 0x9B), (0x9C, .unknownOpcode 0x9C), (0x9D, .unknownOpcode 0x9D), (0x9E, .unknownOpcode 0x9E),
     (0x9F, .unknownOpcode 0x9F)] := by decide

theorem test_decode_row_Ax : DecodesTo
    [(0xA0, .ok .and_B), (0xA1, .ok .and_C), (0xA2, .ok .and_D), (0xA3, .ok .and_E), (0xA4, .ok .and_H), (0xA5, .ok .and_L),
     (0xA6, .ok .and_atHL), (0xA7, .ok .and_A), (0xA8, .ok .xor_B), (0xA9, .ok .xor_C), (0xAA, .ok .xor_D), (0xAB, .ok .xor_E),
     (0xAC, .ok .xor_H), (0xAD, .ok .xor_L), (0xAE, .ok .xor_atHL), (0xAF, .ok .xor_A)] := by decide

theorem test_decode_row_Bx : DecodesTo
    [(0xB0, .ok .or_B), (0xB1, .ok .or_C), (0xB2, .ok .or_D), (0xB3, .ok .or_E), (0xB4, .ok .or_H), (0xB5, .ok .or_L),
     (0xB6, .ok .or_atHL), (0xB7, .ok .or_A), (0xB8, .ok .cp_B), (0xB9, .ok .cp_C), (0xBA, .ok .cp_D), (0xBB, .ok .cp_E),
     (0xBC, .ok .cp_H), (0xBD, .ok .cp_L), (0xBE, .ok .cp_atHL), (0xBF, .ok .cp_A)] := by decide

theorem test_decode_row_Cx : DecodesTo
    [(0xC0, .ok .ret_NZ), (0xC1, .ok .pop_BC), (0xC2, .ok (.jp_NZ_a16 0x1234)), (0xC3, .ok (.jp_a16 0x1234)),
     (0xC4, .ok (.call_NZ_a16 0x1234)), (0xC5, .ok .push_BC), (0xC6, .ok (.add_A_d8 0x34)), (0xC7, .unknownOpcode 0xC7),
     (0xC8, .ok .ret_Z), (0xC9, .ok .ret), (0xCA, .ok (.jp_Z_a16 0x1234)), (0xCC, .ok (.call_Z_a16 0x1234)),
     (0xCD, .ok (.call_a16 0x1234)), (0xCE, .ok (.adc_A_d8 0x34)), (0xCF, .unknownOpcode 0xCF)] := by decide

theorem test_decode_row_Dx : DecodesTo
    [(0xD0, .ok .ret_NC), (0xD1, .ok .pop_DE), (0xD2, .ok (.jp_NC_a16 0x1234)), (0xD3, .unknownOpcode 0xD3),
     (0xD4, .ok (.call_NC_a16 0x1234)), (0xD5, .ok .push_DE), (0xD6, .ok (.sub_d8 0x34)), (0xD7, .unknownOpcode 0xD7), (0xD8, .ok .ret_C),
     (0xD9, .ok .reti), (0xDA, .ok (.jp_C_a16 0x1234)), (0xDB, .unknownOpcode 0xDB), (0xDC, .ok (.call_C_a16 0x1234)),
     (0xDD, .unknownOpcode 0xDD), (0xDE, .unknownOpcode 0xDE), (0xDF, .unknownOpcode 0xDF)] := by decide

theorem test_decode_row_Ex : DecodesTo
    [(0xE0, .ok (.ldh_atA8_A 0x34)), (0xE1, .ok .pop_HL), (0xE2, .ok .ld_atC_A), (0xE3, .unknownOpcode 0xE3), (0xE4, .unknownOpcode 0xE4),
     (0xE5, .ok .push_HL), (0xE6, .ok (.and_d8 0x34)), (0xE7, .unknownOpcode 0xE7), (0xE8, .ok (.add_SP_e8 0x34)), (0xE9, .ok .jp_atHL),
     (0xEA, .ok (.ld_atA16_A 0x1234)), (0xEB, .unknownOpcode 0xEB), (0xEC, .unknownOpcode 0xEC), (0xED, .unknownOpcode 0xED),
     (0xEE, .ok (.xor_d8 0x34)), (0xEF, .unknownOpcode 0xEF)] := by decide

theorem test_decode_row_Fx : DecodesTo
    [(0xF0, .ok (.ldh_A_atA8 0x34)), (0xF1, .ok .pop_AF), (0xF2, .ok .ld_A_atC), (0xF3, .ok .di), (0xF4, .unknownOpcode 0xF4),
     (0xF5, .ok .push_AF), (0xF6, .ok (.or_d8 0x34)), (0xF7, .unknownOpcode 0xF7), (0xF8, .ok (.ld_HL_SPe8 0x34)), (0xF9, .ok .ld_SP_HL),
     (0xFA, .ok (.ld_A_atA16 0x1234)), (0xFB, .ok .ei), (0xFC, .unknownOpcode 0xFC), (0xFD, .unknownOpcode 0xFD),
     (0xFE, .ok (.cp_d8 0x34)), (0xFF, .unknownOpcode 0xFF)] := by decide

theorem test_decode_CB_row_1x : DecodesToPrefixed
    [(0x10, .ok .rl_B), (0x11, .ok .rl_C), (0x12, .ok .rl_D), (0x13, .ok .rl_E), (0x14, .ok .rl_H), (0x15, .ok .rl_L),
     (0x16, .unknownPrefixedOpcode 0x16), (0x17, .ok .rl_A), (0x18, .unknownPrefixedOpcode 0x18), (0x19, .unknownPrefixedOpcode 0x19),
     (0x1A, .unknownPrefixedOpcode 0x1A), (0x1B, .unknownPrefixedOpcode 0x1B), (0x1C, .unknownPrefixedOpcode 0x1C),
     (0x1D, .unknownPrefixedOpcode 0x1D), (0x1E, .unknownPrefixedOpcode 0x1E), (0x1F, .unknownPrefixedOpcode 0x1F)] := by decide

theorem test_decode_CB_row_3x : DecodesToPrefixed
    [(0x30, .ok .swap_B), (0x31, .ok .swap_C), (0x32, .ok .swap_D), (0x33, .ok .swap_E), (0x34, .ok .swap_H), (0x35, .ok .swap_L),
     (0x36, .ok .swap_atHL), (0x37, .ok .swap_A), (0x38, .unknownPrefixedOpcode 0x38), (0x39, .unknownPrefixedOpcode 0x39),
     (0x3A, .unknownPrefixedOpcode 0x3A), (0x3B, .unknownPrefixedOpcode 0x3B), (0x3C, .unknownPrefixedOpcode 0x3C),
     (0x3D, .unknownPrefixedOpcode 0x3D), (0x3E, .unknownPrefixedOpcode 0x3E), (0x3F, .unknownPrefixedOpcode 0x3F)] := by decide

theorem test_decode_CB_row_4x : DecodesToPrefixed
    [(0x40, .ok .bit_0_B), (0x41, .ok .bit_0_C), (0x42, .ok .bit_0_D), (0x43, .ok .bit_0_E), (0x44, .ok .bit_0_H), (0x45, .ok .bit_0_L),
     (0x46, .ok .bit_0_atHL), (0x47, .ok .bit_0_A), (0x48, .ok .bit_1_B), (0x49, .ok .bit_1_C), (0x4A, .ok .bit_1_D),
     (0x4B, .ok .bit_1_E), (0x4C, .ok .bit_1_H), (0x4D, .ok .bit_1_L), (0x4E, .ok .bit_1_atHL), (0x4F, .ok .bit_1_A)] := by decide

theorem test_decode_CB_row_5x : DecodesToPrefixed
    [(0x50, .ok .bit_2_B), (0x51, .ok .bit_2_C), (0x52, .ok .bit_2_D), (0x53, .ok .bit_2_E), (0x54, .ok .bit_2_H), (0x55, .ok .bit_2_L),
     (0x56, .ok .bit_2_atHL), (0x57, .ok .bit_2_A), (0x58, .ok .bit_3_B), (0x59, .ok .bit_3_C), (0x5A, .ok .bit_3_D),
     (0x5B, .ok .bit_3_E), (0x5C, .ok .bit_3_H), (0x5D, .ok .bit_3_L), (0x5E, .ok .bit_3_atHL), (0x5F, .ok .bit_3_A)] := by decide

theorem test_decode_CB_row_6x : DecodesToPrefixed
    [(0x60, .ok .bit_4_B), (0x61, .ok .bit_4_C), (0x62, .ok .bit_4_D), (0x63, .ok .bit_4_E), (0x64, .ok .bit_4_H), (0x65, .ok .bit_4_L),
     (0x66, .ok .bit_4_atHL), (0x67, .ok .bit_4_A), (0x68, .ok .bit_5_B), (0x69, .ok .bit_5_C), (0x6A, .ok .bit_5_D),
     (0x6B, .ok .bit_5_E), (0x6C, .ok .bit_5_H), (0x6D, .ok .bit_5_L), (0x6E, .ok .bit_5_atHL), (0x6F, .ok .bit_5_A)] := by decide

theorem test_decode_CB_row_7x : DecodesToPrefixed
    [(0x70, .ok .bit_6_B), (0x71, .ok .bit_6_C), (0x72, .ok .bit_6_D), (0x73, .ok .bit_6_E), (0x74, .ok .bit_6_H), (0x75, .ok .bit_6_L),
     (0x76, .ok .bit_6_atHL), (0x77, .ok .bit_6_A), (0x78, .ok .bit_7_B), (0x79, .ok .bit_7_C), (0x7A, .ok .bit_7_D),
     (0x7B, .ok .bit_7_E), (0x7C, .ok .bit_7_H), (0x7D, .ok .bit_7_L), (0x7E, .ok .bit_7_atHL), (0x7F, .ok .bit_7_A)] := by decide

/-! ## One CPU step: the vectors of 95_test_vectors.md section 2, each computed there from the rules it cites -/

/-! ### Loads (40_nop_load.md) -/

theorem test_L1_NOP : RunsTo (start { Cpu.reset with pc := 0x0100 } [])
    { Cpu.reset with pc := 0x0101 } [] 4 := by decide +kernel

theorem test_L2_LD_B_C : RunsTo (start { Cpu.reset with c := 0x9A, pc := 0x0100 } [(0x0100, 0x41)])
    { Cpu.reset with b := 0x9A, c := 0x9A, pc := 0x0101 } [] 4 := by decide +kernel

theorem test_L3_LD_A_A : RunsTo (start { Cpu.reset with a := 0x33, pc := 0x0100 } [(0x0100, 0x7F)])
    { Cpu.reset with a := 0x33, pc := 0x0101 } [] 4 := by decide +kernel

theorem test_L4_LD_H_HL : RunsTo (start { Cpu.reset with h := 0xC0, l := 0x12, pc := 0x0100 } [(0x0100, 0x66), (0xC012, 0xD0)])
    { Cpu.reset with h := 0xD0, l := 0x12, pc := 0x0101 } [] 8 := by decide +kernel

theorem test_L5_LD_L_HL : RunsTo (start { Cpu.reset with h := 0xC0, l := 0x12, pc := 0x0100 } [(0x0100, 0x6E), (0xC012, 0x34)])
    { Cpu.reset with h := 0xC0, l := 0x34, pc := 0x0101 } [] 8 := by decide +kernel

theorem test_L6_LD_HL_H : RunsTo (start { Cpu.reset with h := 0xC0, l := 0x12, pc := 0x0100 } [(0x0100, 0x74)])
    { Cpu.reset with h := 0xC0, l := 0x12, pc := 0x0101 } [(0xC012, 0xC0)] 8 := by decide +kernel

theorem test_L7_LD_HL_L : RunsTo (start { Cpu.reset with h := 0xC0, l := 0x12, pc := 0x0100 } [(0x0100, 0x75)])
    { Cpu.reset with h := 0xC0, l := 0x12, pc := 0x0101 } [(0xC012, 0x12)] 8 := by decide +kernel

theorem test_L8_LD_D_d8 : RunsTo (start { Cpu.reset with pc := 0x0100 } [(0x0100, 0x16), (0x0101, 0xA5)])
    { Cpu.reset with d := 0xA5, pc := 0x0102 } [] 8 := by decide +kernel

theorem test_L9_LD_HL_d8 : RunsTo (start { Cpu.reset with h := 0xC0, pc := 0x0100 } [(0x0100, 0x36), (0xC000, 0xEE)])
    { Cpu.reset with h := 0xC0, pc := 0x0102 } [(0xC000, 0x00)] 12 := by decide +kernel

theorem test_L10_LD_BC_A : RunsTo (start { Cpu.reset with a := 0x11, b := 0xC0, c := 0xFF, pc := 0x0100 } [(0x0100, 0x02)])
    { Cpu.reset with a := 0x11, b := 0xC0, c := 0xFF, pc := 0x0101 } [(0xC0FF, 0x11)] 8 := by decide +kernel

theorem test_L11_LD_A_BC : RunsTo (start { Cpu.reset with b := 0xC0, c := 0xFF, pc := 0x0100 } [(0x0100, 0x0A), (0xC0FF, 0x22)])
    { Cpu.reset with a := 0x22, b := 0xC0, c := 0xFF, pc := 0x0101 } [] 8 := by decide +kernel

theorem test_L12_LD_HLp_A_wrap : RunsTo (start { Cpu.reset with a := 0x5C, h := 0xFF, l := 0xFF, pc := 0x0100 } [(0x0100, 0x22)])
    { Cpu.reset with a := 0x5C, pc := 0x0101 } [(0xFFFF, 0x5C)] 8 := by decide +kernel

theorem test_L13_LD_HLm_A_wrap : RunsTo (start { Cpu.reset with a := 0x5C, pc := 0x0100 } [(0x0100, 0x32)])
    { Cpu.reset with a := 0x5C, h := 0xFF, l := 0xFF, pc := 0x0101 } [(0x0000, 0x5C)] 8 := by decide +kernel

theorem test_L14_LD_A_HLp : RunsTo (start { Cpu.reset with h := 0xC0, l := 0xFF, pc := 0x0100 } [(0x0100, 0x2A), (0xC0FF, 0x80)])
    { Cpu.reset with a := 0x80, h := 0xC1, pc := 0x0101 } [] 8 := by decide +kernel

theorem test_L15_LD_A_HLm : RunsTo (start { Cpu.reset with h := 0xC1, pc := 0x0100 } [(0x0100, 0x3A), (0xC100, 0x81)])
    { Cpu.reset with a := 0x81, h := 0xC0, l := 0xFF, pc := 0x0101 } [] 8 := by decide +kernel

theorem test_L16_LDH_a8_A_to_BGP : RunsTo (start { Cpu.reset with a := 0x1B, pc := 0x0100 } [(0x0100, 0xE0), (0x0101, 0x47)])
    { Cpu.reset with a := 0x1B, pc := 0x0102 } [(0xFF47, 0x1B)] 12 := by decide +kernel

theorem test_L17_LDH_A_a8 : RunsTo (start { Cpu.reset with pc := 0x0100 } [(0x0100, 0xF0), (0x0101, 0x80), (0xFF80, 0x3D)])
    { Cpu.reset with a := 0x3D, pc := 0x0102 } [] 12 := by decide +kernel

theorem test_L18_LD_C_A : RunsTo (start { Cpu.reset with a := 0x08, c := 0x42, pc := 0x0100 } [(0x0100, 0xE2)])
    { Cpu.reset with a := 0x08, c := 0x42, pc := 0x0101 } [(0xFF42, 0x08)] 8 := by decide +kernel

theorem test_L19_LD_A_C : RunsTo (start { Cpu.reset with c := 0x80, pc := 0x0100 } [(0x0100, 0xF2), (0xFF80, 0x77)])
    { Cpu.reset with a := 0x77, c := 0x80, pc := 0x0101 } [] 8 := by decide +kernel

theorem test_L20_LD_a16_A : RunsTo (start { Cpu.reset with a := 0xAB, pc := 0x0100 } [(0x0100, 0xEA), (0x0101, 0x34), (0x0102, 0x12)])
    { Cpu.reset with a := 0xAB, pc := 0x0103 } [(0x1234, 0xAB)] 16 := by decide +kernel

theorem test_L21_LD_A_a16 : RunsTo (start { Cpu.reset with pc := 0x0100 } [(0x0100, 0xFA), (0x0101, 0xFF), (0x0102, 0xFF), (0xFFFF, 0x1F)])
    { Cpu.reset with a := 0x1F, pc := 0x0103 } [] 16 := by decide +kernel

theorem test_L22_LD_BC_d16 : RunsTo (start { Cpu.reset with pc := 0x0100 } [(0x0100, 0x01), (0x0101, 0x34), (0x0102, 0x12)])
    { Cpu.reset with b := 0x12, c := 0x34, pc := 0x0103 } [] 12 := by decide +kernel

theorem test_L23_LD_HL_d16 : RunsTo (start { Cpu.reset with pc := 0x0100 } [(0x0100, 0x21), (0x0102, 0x80)])
    { Cpu.reset with h := 0x80, pc := 0x0103 } [] 12 := by decide +kernel

theorem test_L24_LD_a16_SP : RunsTo (start { Cpu.reset with sp := 0xABCD, pc := 0x0100 } [(0x0100, 0x08), (0x0102, 0xC0)])
    { Cpu.reset with sp := 0xABCD, pc := 0x0103 } [(0xC000, 0xCD), (0xC001, 0xAB)] 20 := by decide +kernel

theorem test_L25_LD_a16_SP_at_FFFF : RunsTo (start { Cpu.reset with sp := 0x1234, pc := 0x0100 } [(0x0100, 0x08), (0x0101, 0xFF), (0x0102, 0xFF)])
    { Cpu.reset with sp := 0x1234, pc := 0x0103 } [(0x0000, 0x12), (0xFFFF, 0x34)] 20 := by decide +kernel

theorem test_L26_LD_SP_HL : RunsTo (start { Cpu.reset with sp := 0xFFFE, pc := 0x0100 } [(0x0100, 0xF9)])
    { Cpu.reset with pc := 0x0101 } [] 8 := by decide +kernel

theorem test_L27_LD_HL_SPpe8_neg : RunsTo (start { Cpu.reset with pc := 0x0100 } [(0x0100, 0xF8), (0x0101, 0xFF)])
    { Cpu.reset with h := 0xFF, l := 0xFF, pc := 0x0102 } [] 12 := by decide +kernel

theorem test_L28_LD_HL_SPpe8_no_carry : RunsTo (start { Cpu.reset with flags := ⟨true, true, true, true⟩, sp := 0x1200, pc := 0x0100 } [(0x0100, 0xF8), (0x0101, 0x01)])
    { Cpu.reset with h := 0x12, l := 0x01, sp := 0x1200, pc := 0x0102 } [] 12 := by decide +kernel

theorem test_L29_LD_HL_SPpe8_H_only : RunsTo (start { Cpu.reset with sp := 0x0008, pc := 0x0100 } [(0x0100, 0xF8), (0x0101, 0x08)])
    { Cpu.reset with l := 0x10, flags := ⟨false, false, true, false⟩, sp := 0x0008, pc := 0x0102 } [] 12 := by decide +kernel

theorem test_L30_DMA_via_LDH : RunsTo (start { Cpu.reset with a := 0xC0, pc := 0x0100 } [(0x0100, 0xE0), (0x0101, 0x46), (0xC000, 0x11), (0xC09F, 0x22)])
    { Cpu.reset with a := 0xC0, pc := 0x0102 } [(0xFE00, 0x11), (0xFE9F, 0x22), (0xFF46, 0xC0)] 12 := by decide +kernel

/-! ### 8-bit arithmetic and logic (41_arith.md) -/

theorem test_A1_ADD_A_B_no_flags : RunsTo (start { Cpu.reset with a := 0x12, b := 0x34, pc := 0x0100 } [(0x0100, 0x80)])
    { Cpu.reset with a := 0x46, b := 0x34, pc := 0x0101 } [] 4 := by decide +kernel

theorem test_A2_ADD_A_A_carry : RunsTo (start { Cpu.reset with a := 0x80, pc := 0x0100 } [(0x0100, 0x87)])
    { Cpu.reset with flags := ⟨true, false, false, true⟩, pc := 0x0101 } [] 4 := by decide +kernel

theorem test_A3_ADD_A_HL_half : RunsTo (start { Cpu.reset with a := 0x08, h := 0xC0, pc := 0x0100 } [(0x0100, 0x86), (0xC000, 0x08)])
    { Cpu.reset with a := 0x10, h := 0xC0, flags := ⟨false, false, true, false⟩, pc := 0x0101 } [] 8 := by decide +kernel

theorem test_A4_ADD_A_d8_wrap_to_0 : RunsTo (start { Cpu.reset with a := 0xFF, pc := 0x0100 } [(0x0100, 0xC6), (0x0101, 0x01)])
    { Cpu.reset with flags := ⟨true, false, true, true⟩, pc := 0x0102 } [] 8 := by decide +kernel

theorem test_A5_ADC_A_B_carry_in : RunsTo (start { Cpu.reset with a := 0xFF, flags := ⟨false, false, false, true⟩, pc := 0x0100 } [(0x0100, 0x88)])
    { Cpu.reset with flags := ⟨true, false, true, true⟩, pc := 0x0101 } [] 4 := by decide +kernel

theorem test_A6_ADC_A_A_carry_in : RunsTo (start { Cpu.reset with a := 0x81, flags := ⟨false, false, false, true⟩, pc := 0x0100 } [(0x0100, 0x8F)])
    { Cpu.reset with a := 0x03, flags := ⟨false, false, false, true⟩, pc := 0x0101 } [] 4 := by decide +kernel

theorem test_A7_ADC_A_d8_no_carry_in : RunsTo (start { Cpu.reset with a := 0x01, pc := 0x0100 } [(0x0100, 0xCE), (0x0101, 0x0F)])
    { Cpu.reset with a := 0x10, flags := ⟨false, false, true, false⟩, pc := 0x0102 } [] 8 := by decide +kernel

theorem test_A8_SUB_A : RunsTo (start { Cpu.reset with a := 0x77, flags := ⟨false, false, true, true⟩, pc := 0x0100 } [(0x0100, 0x97)])
    { Cpu.reset with flags := ⟨true, true, false, false⟩, pc := 0x0101 } [] 4 := by decide +kernel

theorem test_A9_SUB_B_borrow : RunsTo (start { Cpu.reset with b := 0x01, pc := 0x0100 } [(0x0100, 0x90)])
    { Cpu.reset with a := 0xFF, b := 0x01, flags := ⟨false, true, true, true⟩, pc := 0x0101 } [] 4 := by decide +kernel

theorem test_A10_SUB_d8_half_borrow : RunsTo (start { Cpu.reset with a := 0x10, pc := 0x0100 } [(0x0100, 0xD6), (0x0101, 0x01)])
    { Cpu.reset with a := 0x0F, flags := ⟨false, true, true, false⟩, pc := 0x0102 } [] 8 := by decide +kernel

theorem test_A11_SUB_HL : RunsTo (start { Cpu.reset with a := 0x80, h := 0xC0, pc := 0x0100 } [(0x0100, 0x96), (0xC000, 0x7F)])
    { Cpu.reset with a := 0x01, h := 0xC0, flags := ⟨false, true, true, false⟩, pc := 0x0101 } [] 8 := by decide +kernel

theorem test_A12_AND_B_zero : RunsTo (start { Cpu.reset with a := 0xF0, b := 0x0F, pc := 0x0100 } [(0x0100, 0xA0)])
    { Cpu.reset with b := 0x0F, flags := ⟨true, false, true, false⟩, pc := 0x0101 } [] 8 := by decide +kernel

theorem test_A13_AND_A : RunsTo (start { Cpu.reset with a := 0x81, flags := ⟨false, true, false, true⟩, pc := 0x0100 } [(0x0100, 0xA7)])
    { Cpu.reset with a := 0x81, flags := ⟨false, false, true, false⟩, pc := 0x0101 } [] 8 := by decide +kernel

theorem test_A14_AND_d8 : RunsTo (start { Cpu.reset with a := 0xFF, pc := 0x0100 } [(0x0100, 0xE6), (0x0101, 0x81)])
    { Cpu.reset with a := 0x81, flags := ⟨false, false, true, false⟩, pc := 0x0102 } [] 8 := by decide +kernel

theorem test_A15_XOR_B : RunsTo (start { Cpu.reset with a := 0xAA, b := 0x55, flags := ⟨false, true, true, true⟩, pc := 0x0100 } [(0x0100, 0xA8)])
    { Cpu.reset with a := 0xFF, b := 0x55, pc := 0x0101 } [] 4 := by decide +kernel

theorem test_A16_XOR_d8_zero : RunsTo (start { Cpu.reset with a := 0x3C, pc := 0x0100 } [(0x0100, 0xEE), (0x0101, 0x3C)])
    { Cpu.reset with flags := ⟨true, false, false, false⟩, pc := 0x0102 } [] 4 := by decide +kernel

theorem test_A17_OR_HL_zero : RunsTo (start { Cpu.reset with h := 0xC0, flags := ⟨false, true, true, true⟩, pc := 0x0100 } [(0x0100, 0xB6)])
    { Cpu.reset with h := 0xC0, flags := ⟨true, false, false, false⟩, pc := 0x0101 } [] 4 := by decide +kernel

theorem test_A18_OR_C : RunsTo (start { Cpu.reset with a := 0x01, c := 0x80, pc := 0x0100 } [(0x0100, 0xB1)])
    { Cpu.reset with a := 0x81, c := 0x80, pc := 0x0101 } [] 4 := by decide +kernel

theorem test_A19_CP_B_equal : RunsTo (start { Cpu.reset with a := 0x42, b := 0x42, pc := 0x0100 } [(0x0100, 0xB8)])
    { Cpu.reset with a := 0x42, b := 0x42, flags := ⟨true, true, false, false⟩, pc := 0x0101 } [] 4 := by decide +kernel

theorem test_A20_CP_d8_greater : RunsTo (start { Cpu.reset with a := 0x80, pc := 0x0100 } [(0x0100, 0xFE), (0x0101, 0x90)])
    { Cpu.reset with a := 0x80, flags := ⟨false, true, false, true⟩, pc := 0x0102 } [] 8 := by decide +kernel

theorem test_A21_CP_HL_half : RunsTo (start { Cpu.reset with a := 0x20, h := 0xC0, pc := 0x0100 } [(0x0100, 0xBE), (0xC000, 0x01)])
    { Cpu.reset with a := 0x20, h := 0xC0, flags := ⟨false, true, true, false⟩, pc := 0x0101 } [] 8 := by decide +kernel

theorem test_A22_CP_A : RunsTo (start { Cpu.reset with pc := 0x0100 } [(0x0100, 0xBF)])
    { Cpu.reset with flags := ⟨true, true, false, false⟩, pc := 0x0101 } [] 4 := by decide +kernel

theorem test_A23_ADD_HL_HL_carry : RunsTo (start { Cpu.reset with h := 0x80, flags := ⟨true, false, false, false⟩, pc := 0x0100 } [(0x0100, 0x29)])
    { Cpu.reset with flags := ⟨true, false, false, true⟩, pc := 0x0101 } [] 8 := by decide +kernel

theorem test_A24_ADD_HL_DE_half : RunsTo (start { Cpu.reset with e := 0x01, h := 0x0F, l := 0xFF, pc := 0x0100 } [(0x0100, 0x19)])
    { Cpu.reset with e := 0x01, h := 0x10, flags := ⟨false, false, true, false⟩, pc := 0x0101 } [] 8 := by decide +kernel

theorem test_A25_ADD_HL_SP : RunsTo (start { Cpu.reset with h := 0xFF, l := 0xFF, sp := 0x0001, pc := 0x0100 } [(0x0100, 0x39)])
    { Cpu.reset with flags := ⟨false, false, true, true⟩, sp := 0x0001, pc := 0x0101 } [] 8 := by decide +kernel

/-! ### Increment and decrement (42_incdec.md) -/

theorem test_I1_INC_A_half : RunsTo (start { Cpu.reset with a := 0x0F, pc := 0x0100 } [(0x0100, 0x3C)])
    { Cpu.reset with a := 0x10, flags := ⟨false, false, true, false⟩, pc := 0x0101 } [] 4 := by decide +kernel

theorem test_I2_INC_C_keeps_carry : RunsTo (start { Cpu.reset with c := 0x01, flags := ⟨false, false, false, true⟩, pc := 0x0100 } [(0x0100, 0x0C)])
    { Cpu.reset with c := 0x02, flags := ⟨false, false, false, true⟩, pc := 0x0101 } [] 4 := by decide +kernel

theorem test_I3_INC_HL_wrap : RunsTo (start { Cpu.reset with h := 0xC0, pc := 0x0100 } [(0x0100, 0x34), (0xC000, 0xFF)])
    { Cpu.reset with h := 0xC0, flags := ⟨true, false, true, false⟩, pc := 0x0101 } [(0xC000, 0x00)] 12 := by decide +kernel

theorem test_I4_DEC_A_to_FF : RunsTo (start { Cpu.reset with pc := 0x0100 } [(0x0100, 0x3D)])
    { Cpu.reset with a := 0xFF, flags := ⟨false, true, true, false⟩, pc := 0x0101 } [] 4 := by decide +kernel

theorem test_I5_DEC_E_half : RunsTo (start { Cpu.reset with e := 0x10, flags := ⟨false, false, false, true⟩, pc := 0x0100 } [(0x0100, 0x1D)])
    { Cpu.reset with e := 0x0F, flags := ⟨false, true, true, true⟩, pc := 0x0101 } [] 4 := by decide +kernel

theorem test_I6_DEC_L : RunsTo (start { Cpu.reset with l := 0x02, pc := 0x0100 } [(0x0100, 0x2D)])
    { Cpu.reset with l := 0x01, flags := ⟨false, true, false, false⟩, pc := 0x0101 } [] 4 := by decide +kernel

theorem test_I7_DEC_HL_to_0 : RunsTo (start { Cpu.reset with h := 0xC0, pc := 0x0100 } [(0x0100, 0x35), (0xC000, 0x01)])
    { Cpu.reset with h := 0xC0, flags := ⟨true, true, false, false⟩, pc := 0x0101 } [(0xC000, 0x00)] 12 := by decide +kernel

theorem test_I8_INC_SP_wrap : RunsTo (start { Cpu.reset with sp := 0xFFFF, pc := 0x0100 } [(0x0100, 0x33)])
    { Cpu.reset with pc := 0x0101 } [] 8 := by decide +kernel

theorem test_I9_DEC_BC_to_0_no_Z : RunsTo (start { Cpu.reset with c := 0x01, pc := 0x0100 } [(0x0100, 0x0B)])
    { Cpu.reset with pc := 0x0101 } [] 8 := by decide +kernel

theorem test_I10_DEC_HL_wrap : RunsTo (start { Cpu.reset with pc := 0x0100 } [(0x0100, 0x2B)])
    { Cpu.reset with h := 0xFF, l := 0xFF, pc := 0x0101 } [] 8 := by decide +kernel

/-! ### Bit test and rotate (43_bit_rotate.md) -/

theorem test_B1_BIT_0_A_set : RunsTo (start { Cpu.reset with a := 0x01, flags := ⟨false, true, false, true⟩, pc := 0x0100 } [(0x0100, 0xCB), (0x0101, 0x47)])
    { Cpu.reset with a := 0x01, flags := ⟨false, false, true, true⟩, pc := 0x0102 } [] 12 := by decide +kernel

theorem test_B2_BIT_7_A_clear : RunsTo (start { Cpu.reset with a := 0x7F, pc := 0x0100 } [(0x0100, 0xCB), (0x0101, 0x7F)])
    { Cpu.reset with a := 0x7F, flags := ⟨true, false, true, false⟩, pc := 0x0102 } [] 12 := by decide +kernel

theorem test_B3_BIT_3_HL : RunsTo (start { Cpu.reset with h := 0xC0, pc := 0x0100 } [(0x0100, 0xCB), (0x0101, 0x5E), (0xC000, 0x08)])
    { Cpu.reset with h := 0xC0, flags := ⟨false, false, true, false⟩, pc := 0x0102 } [] 12 := by decide +kernel

theorem test_B4_RL_B_carry_in_out : RunsTo (start { Cpu.reset with b := 0x80, flags := ⟨false, false, false, true⟩, pc := 0x0100 } [(0x0100, 0xCB), (0x0101, 0x10)])
    { Cpu.reset with b := 0x01, flags := ⟨false, false, false, true⟩, pc := 0x0102 } [] 8 := by decide +kernel

theorem test_B5_RL_A_to_zero : RunsTo (start { Cpu.reset with a := 0x80, pc := 0x0100 } [(0x0100, 0xCB), (0x0101, 0x17)])
    { Cpu.reset with flags := ⟨true, false, false, true⟩, pc := 0x0102 } [] 8 := by decide +kernel

theorem test_B6_RLA_to_zero_clears_Z : RunsTo (start { Cpu.reset with a := 0x80, flags := ⟨true, false, false, false⟩, pc := 0x0100 } [(0x0100, 0x17)])
    { Cpu.reset with flags := ⟨false, false, false, true⟩, pc := 0x0101 } [] 4 := by decide +kernel

theorem test_B7_RL_HL_not_admitted : FaultsWith (start { Cpu.reset with h := 0xC0, pc := 0x0100 } [(0x0100, 0xCB), (0x0101, 0x16)])
    (.decodeError .unknownPrefixedOpcode 0x0100 0x16) := by decide +kernel

/-! ### Jumps, calls and returns (44_control.md) -/

theorem test_J1_JR_p0 : RunsTo (start { Cpu.reset with pc := 0x0100 } [(0x0100, 0x18)])
    { Cpu.reset with pc := 0x0102 } [] 12 := by decide +kernel

theorem test_J2_JR_m128 : RunsTo (start { Cpu.reset with pc := 0x0100 } [(0x0100, 0x18), (0x0101, 0x80)])
    { Cpu.reset with pc := 0x0082 } [] 12 := by decide +kernel

theorem test_J3_JR_p127 : RunsTo (start { Cpu.reset with pc := 0x0100 } [(0x0100, 0x18), (0x0101, 0x7F)])
    { Cpu.reset with pc := 0x0181 } [] 12 := by decide +kernel

theorem test_J4_JR_C_taken : RunsTo (start { Cpu.reset with flags := ⟨false, false, false, true⟩, pc := 0x0100 } [(0x0100, 0x38), (0x0101, 0x10)])
    { Cpu.reset with flags := ⟨false, false, false, true⟩, pc := 0x0112 } [] 12 := by decide +kernel

theorem test_J5_JR_NC_not_taken : RunsTo (start { Cpu.reset with flags := ⟨false, false, false, true⟩, pc := 0x0100 } [(0x0100, 0x30), (0x0101, 0x10)])
    { Cpu.reset with flags := ⟨false, false, false, true⟩, pc := 0x0102 } [] 8 := by decide +kernel

theorem test_J6_JR_Z_not_taken : RunsTo (start { Cpu.reset with pc := 0x0100 } [(0x0100, 0x28), (0x0101, 0x05)])
    { Cpu.reset with pc := 0x0102 } [] 8 := by decide +kernel

theorem test_J7_JP_NZ_not_taken : RunsTo (start { Cpu.reset with flags := ⟨true, false, false, false⟩, pc := 0x0100 } [(0x0100, 0xC2), (0x0102, 0x20)])
    { Cpu.reset with flags := ⟨true, false, false, false⟩, pc := 0x0103 } [] 12 := by decide +kernel

theorem test_J8_JP_Z_taken : RunsTo (start { Cpu.reset with flags := ⟨true, false, false, false⟩, pc := 0x0100 } [(0x0100, 0xCA), (0x0102, 0x20)])
    { Cpu.reset with flags := ⟨true, false, false, false⟩, pc := 0x2000 } [] 16 := by decide +kernel

theorem test_J9_JP_HL : RunsTo (start { Cpu.reset with h := 0xC0, pc := 0x0100 } [(0x0100, 0xE9)])
    { Cpu.reset with h := 0xC0, pc := 0xC000 } [] 4 := by decide +kernel

theorem test_J10_CALL_SP_wrap : RunsTo (start { Cpu.reset with pc := 0x0100 } [(0x0100, 0xCD), (0x0102, 0x02)])
    { Cpu.reset with sp := 0xFFFE, pc := 0x0200 } [(0xFFFE, 0x01), (0xFFFF, 0x03)] 24 := by decide +kernel

theorem test_J11_CALL_NC_not_taken : RunsTo (start { Cpu.reset with flags := ⟨false, false, false, true⟩, sp := 0xFFFE, pc := 0x0100 } [(0x0100, 0xD4), (0x0102, 0x02)])
    { Cpu.reset with flags := ⟨false, false, false, true⟩, sp := 0xFFFE, pc := 0x0103 } [] 12 := by decide +kernel

theorem test_J12_CALL_C_taken : RunsTo (start { Cpu.reset with flags := ⟨false, false, false, true⟩, sp := 0xFFFE, pc := 0x0100 } [(0x0100, 0xDC), (0x0102, 0x02)])
    { Cpu.reset with flags := ⟨false, false, false, true⟩, sp := 0xFFFC, pc := 0x0200 } [(0xFFFC, 0x01), (0xFFFD, 0x03)] 24 := by decide +kernel

theorem test_J13_RET_Z_not_taken : RunsTo (start { Cpu.reset with sp := 0xFFFC, pc := 0x0100 } [(0x0100, 0xC8)])
    { Cpu.reset with sp := 0xFFFC, pc := 0x0101 } [] 8 := by decide +kernel

theorem test_J14_RET_NZ_taken : RunsTo (start { Cpu.reset with sp := 0xFFFC, pc := 0x0100 } [(0x0100, 0xC0), (0xFFFC, 0x12), (0xFFFD, 0x34)])
    { Cpu.reset with sp := 0xFFFE, pc := 0x1234 } [] 20 := by decide +kernel

theorem test_J15_RETI : RunsTo (start { Cpu.reset with sp := 0xFFFC, pc := 0x0100 } [(0x0100, 0xD9), (0xFFFC, 0x01)])
    { Cpu.reset with sp := 0xFFFE, pc := 0x0100, ime := true } [] 16 := by decide +kernel

theorem test_J16_RET_SP_wrap : RunsTo (start { Cpu.reset with sp := 0xFFFF, pc := 0x0100 } [(0x0100, 0xC9), (0xFFFF, 0xC0)])
    { Cpu.reset with sp := 0x0001, pc := 0xC000 } [] 16 := by decide +kernel

/-! ### Stack (45_stack.md) -/

theorem test_S1_PUSH_AF : RunsTo (start { Cpu.reset with a := 0x12, flags := ⟨true, false, true, true⟩, sp := 0xD000, pc := 0x0100 } [(0x0100, 0xF5)])
    { Cpu.reset with a := 0x12, flags := ⟨true, false, true, true⟩, sp := 0xCFFE, pc := 0x0101 } [(0xCFFE, 0x12), (0xCFFF, 0xB0)] 16 := by decide +kernel

theorem test_S2_PUSH_HL_SP_1 : RunsTo (start { Cpu.reset with h := 0xBE, l := 0xEF, sp := 0x0001, pc := 0x0100 } [(0x0100, 0xE5)])
    { Cpu.reset with h := 0xBE, l := 0xEF, sp := 0xFFFF, pc := 0x0101 } [(0x0000, 0xEF), (0xFFFF, 0xBE)] 16 := by decide +kernel

theorem test_S3_POP_AF_drops_low_nibble : RunsTo (start { Cpu.reset with sp := 0xD000, pc := 0x0100 } [(0x0100, 0xF1), (0xD001, 0xFF)])
    { Cpu.reset with flags := ⟨true, true, true, true⟩, sp := 0xD002, pc := 0x0101 } [] 12 := by decide +kernel

theorem test_S4_POP_HL : RunsTo (start { Cpu.reset with sp := 0xD000, pc := 0x0100 } [(0x0100, 0xE1), (0xD000, 0xC0), (0xD001, 0x01)])
    { Cpu.reset with h := 0xC0, l := 0x01, sp := 0xD002, pc := 0x0101 } [] 12 := by decide +kernel

theorem test_S5_ADD_SP_p127 : RunsTo (start { Cpu.reset with sp := 0xFF81, pc := 0x0100 } [(0x0100, 0xE8), (0x0101, 0x7F)])
    { Cpu.reset with flags := ⟨false, false, true, true⟩, pc := 0x0102 } [] 16 := by decide +kernel

theorem test_S6_ADD_SP_m128 : RunsTo (start { Cpu.reset with pc := 0x0100 } [(0x0100, 0xE8), (0x0101, 0x80)])
    { Cpu.reset with sp := 0xFF80, pc := 0x0102 } [] 16 := by decide +kernel

theorem test_S7_ADD_SP_p1_H : RunsTo (start { Cpu.reset with flags := ⟨true, false, false, false⟩, sp := 0x00FF, pc := 0x0100 } [(0x0100, 0xE8), (0x0101, 0x01)])
    { Cpu.reset with flags := ⟨false, false, true, true⟩, sp := 0x0100, pc := 0x0102 } [] 16 := by decide +kernel

/-! ### Miscellaneous (46_misc.md) -/

theorem test_M1_CPL_keeps_Z_C : RunsTo (start { Cpu.reset with a := 0xFF, flags := ⟨true, false, false, true⟩, pc := 0x0100 } [(0x0100, 0x2F)])
    { Cpu.reset with flags := ⟨true, true, true, true⟩, pc := 0x0101 } [] 4 := by decide +kernel

theorem test_M2_SCF_keeps_Z : RunsTo (start { Cpu.reset with flags := ⟨true, false, false, false⟩, pc := 0x0100 } [(0x0100, 0x37)])
    { Cpu.reset with flags := ⟨true, false, false, true⟩, pc := 0x0101 } [] 4 := by decide +kernel

theorem test_M3_EI : RunsTo (start { Cpu.reset with pc := 0x0100 } [(0x0100, 0xFB)])
    { Cpu.reset with pc := 0x0101, eiDelay := 1 } [] 4 := by decide +kernel

theorem test_M4_DI_after_EI : RunsTo (start { Cpu.reset with pc := 0x0100, eiDelay := 1 } [(0x0100, 0xF3)])
    { Cpu.reset with pc := 0x0101 } [] 4 := by decide +kernel

theorem test_M5_SWAP_zero : RunsTo (start { Cpu.reset with flags := ⟨false, true, true, true⟩, pc := 0x0100 } [(0x0100, 0xCB), (0x0101, 0x30)])
    { Cpu.reset with flags := ⟨true, false, false, false⟩, pc := 0x0102 } [] 8 := by decide +kernel

theorem test_M6_SWAP_L : RunsTo (start { Cpu.reset with l := 0x12, pc := 0x0100 } [(0x0100, 0xCB), (0x0101, 0x35)])
    { Cpu.reset with l := 0x21, pc := 0x0102 } [] 8 := by decide +kernel

theorem test_M7_SWAP_HL_equal_nibbles : RunsTo (start { Cpu.reset with h := 0xC0, pc := 0x0100 } [(0x0100, 0xCB), (0x0101, 0x36), (0xC000, 0x77)])
    { Cpu.reset with h := 0xC0, pc := 0x0102 } [] 16 := by decide +kernel

/-! ### Decode errors (60_exceptions.md) -/

theorem test_E1_SBC_A_B : FaultsWith (start { Cpu.reset with pc := 0x0100 } [(0x0100, 0x98)])
    (.decodeError .unknownOpcode 0x0100 0x98) := by decide +kernel

theorem test_E2_HALT : FaultsWith (start { Cpu.reset with pc := 0x0100 } [(0x0100, 0x76)])
    (.decodeError .unknownOpcode 0x0100 0x76) := by decide +kernel

theorem test_E3_CB_RES_0_B : FaultsWith (start { Cpu.reset with pc := 0x0100 } [(0x0100, 0xCB), (0x0101, 0x80)])
    (.decodeError .unknownPrefixedOpcode 0x0100 0x80) := by decide +kernel

theorem test_E4_CB_at_FFFF : FaultsWith (start { Cpu.reset with pc := 0xFFFF } [(0xFFFF, 0xCB)])
    (.decodeError .outOfRange 0xFFFF 0xCB) := by decide +kernel

theorem test_E5_LD_A_d8_at_FFFF : FaultsWith (start { Cpu.reset with pc := 0xFFFF } [(0xFFFF, 0x3E)])
    (.decodeError .outOfRange 0xFFFF 0x3E) := by decide +kernel

theorem test_E6_JP_a16_at_FFFE : FaultsWith (start { Cpu.reset with pc := 0xFFFE } [(0xFFFE, 0xC3)])
    (.decodeError .outOfRange 0xFFFE 0xC3) := by decide +kernel

theorem test_E7_LD_BC_d16_at_FFFD_decodes : RunsTo (start { Cpu.reset with pc := 0xFFFD } [(0xFFFD, 0x01), (0xFFFE, 0x34), (0xFFFF, 0x12)])
    { Cpu.reset with b := 0x12, c := 0x34, pc := 0x0000 } [] 12 := by decide +kernel

theorem test_E8_unadmitted_at_FFFF : FaultsWith (start { Cpu.reset with pc := 0xFFFF } [(0xFFFF, 0xFF)])
    (.decodeError .unknownOpcode 0xFFFF 0xFF) := by decide +kernel

theorem test_E9_NOP_at_FFFF : RunsTo (start { Cpu.reset with pc := 0xFFFF } [])
    { Cpu.reset with pc := 0x0000 } [] 4 := by decide +kernel

/-! ## Words written out bit by bit, one at least for every family (30_encoding.md R82, R90, R91) -/

theorem test_word_nop : decodeBytes 0b00000000 [] = .ok .nop := by decide
theorem test_word_ld_reg : decodeBytes 0b01111000 [] = .ok .ld_A_B := by decide
theorem test_word_ld_mem : decodeBytes 0b01110101 [] = .ok .ld_atHL_L := by decide
theorem test_word_ld_imm : decodeBytes 0b00011110 [0b10100101] = .ok (.ld_E_d8 0xA5) := by decide
theorem test_word_ld_pair : decodeBytes 0b00110001 [0b11111110, 0b11111111] = .ok (.ld_SP_d16 0xFFFE) := by decide
theorem test_word_add : decodeBytes 0b10000111 [] = .ok .add_A_A := by decide
theorem test_word_alu_imm : decodeBytes 0b11101110 [0b00001111] = .ok (.xor_d8 0x0F) := by decide
theorem test_word_incdec : decodeBytes 0b00000101 [] = .ok .dec_B ∧ decodeBytes 0b00110011 [] = .ok .inc_SP := by decide
theorem test_word_bit : decodeBytes 0b11001011 [0b01111100] = .ok .bit_7_H := by decide
theorem test_word_rl : decodeBytes 0b11001011 [0b00010011] = .ok .rl_E ∧ decodeBytes 0b00010111 [] = .ok .rla := by decide
theorem test_word_control : decodeBytes 0b11001101 [0b00000100, 0b00000000] = .ok (.call_a16 0x0004) ∧
    decodeBytes 0b00101000 [0b11111110] = .ok (.jr_Z_e8 0xFE) := by decide
theorem test_word_stack : decodeBytes 0b11110101 [] = .ok .push_AF ∧ decodeBytes 0b11101000 [0b10000000] = .ok (.add_SP_e8 0x80) := by
  decide
theorem test_word_misc : decodeBytes 0b11111011 [] = .ok .ei ∧ decodeBytes 0b11001011 [0b00110110] = .ok .swap_atHL := by decide

/-! ## Well-formedness: an ill-formed term for each check, which the check refuses -/

theorem test_wf_two_bytes_at_top : Instr.fitsAt (.ld_A_d8 0) 0xFFFF = false ∧ Instr.fitsAt (.ld_A_d8 0) 0xFFFE = true := by decide
theorem test_wf_three_bytes_near_top : Instr.fitsAt (.jp_a16 0) 0xFFFE = false ∧ Instr.fitsAt (.jp_a16 0) 0xFFFD = true := by decide
theorem test_wf_prefixed_at_top : Instr.fitsAt .bit_0_A 0xFFFF = false ∧ Instr.fitsAt .nop 0xFFFF = true := by decide
theorem test_wf_image_too_long : imageFits (List.replicate 65537 0) = false ∧ imageFits (List.replicate 65536 0) = true := by
  rw [imageFits, imageFits, List.length_replicate, List.length_replicate]
  decide
theorem test_wf_sample_period : Config.wellFormed { Config.standard with clockRate := 44099 } = false := by decide
theorem test_wf_duty_scale : Config.wellFormed { Config.standard with dutyStepScale := 0 } = false := by decide
theorem test_wf_cycles : Config.wellFormed { Config.standard with cycleOverrides := [(.nop, 3)] } = false := by decide

/-! ## Worked examples of the document (95_test_vectors.md section 1) -/

theorem test_W2_pairs : (State.reset.setRegister16 .hl 0xBEEF).getRegister8 .h = 0xBE ∧
    (State.reset.setRegister16 .af 0x12FF).getRegister8 .f = 0xF0 := by decide
theorem test_W4_LD_SP : RunsTo (start Cpu.reset [(0, 0x31), (1, 0xFE), (2, 0xFF)])
    { Cpu.reset with sp := 0xFFFE, pc := 0x0003 } [] 12 := by decide +kernel
theorem test_W5_XOR_A : RunsTo (start { Cpu.reset with a := 0x01, flags := ⟨true, true, true, true⟩ } [(0, 0xAF)])
    { Cpu.reset with flags := ⟨true, false, false, false⟩, pc := 0x0001 } [] 4 := by decide +kernel
theorem test_W6_DEC_B : RunsTo (start { Cpu.reset with b := 0x01 } [(0, 0x05)])
    { Cpu.reset with flags := ⟨true, true, false, false⟩, pc := 0x0001 } [] 4 := by decide +kernel
theorem test_W7_CALL : RunsTo (start { Cpu.reset with sp := 0x0007 } [(0, 0xCD), (1, 0x04)])
    { Cpu.reset with sp := 0x0005, pc := 0x0004 } [(0x0005, 0x00), (0x0006, 0x03)] 24 := by decide +kernel

/-! ## Sequences (95_test_vectors.md X1 to X5), one step each, from the state the step before left -/

theorem test_X1_after_EI : RunsTo (start { Cpu.reset with pc := 0x0001, eiDelay := 1 } [(0, 0xFB)])
    { Cpu.reset with pc := 0x0002, ime := true } [] 4 := by decide +kernel
theorem test_X3_EI_after_EI : RunsTo (start { Cpu.reset with pc := 0x0001, eiDelay := 1 } [(0, 0xFB), (1, 0xFB)])
    { Cpu.reset with pc := 0x0002, eiDelay := 1 } [] 4 := by decide +kernel
theorem test_X5_RETI_after_EI : RunsTo (start { Cpu.reset with pc := 0x0001, sp := 0xFFFC, eiDelay := 1 } [(1, 0xD9), (0xFFFD, 0x10)])
    { Cpu.reset with pc := 0x0010, sp := 0xFFFE, ime := true } [] 16 := by decide +kernel

/-! ## The PPU (95_test_vectors.md PV1 to PV11) -/

/-- The reset state with other memory bytes and another accumulator. -/
def ppuStart (acc : Fin 456) (mem : Memory) : State := (start Cpu.reset mem).setAcc acc

/-- LY and the accumulator after a tick. -/
def lineAfter (s : State) (n : Nat) : Nat × Nat := (((s.ppuTick n).memRead 0xFF44).toNat, (s.ppuTick n).ppu.acc.val)

/-- The codes of some pixels of row y as the renderer gives them. -/
def pixelCodes (s : State) (y : Nat) (columns : List Nat) : List Nat := columns.map fun x => (s.pixel x y).code.val

/-- Tile 1 solid, with one map entry naming it and other bytes below or above. -/
def solidTile (entry : Nat) (above : Memory) : Memory :=
  [(0x8010, 0xFF), (0x8011, 0xFF), (entry, 0x01)] ++ above

theorem test_PV1_lcd_off : lineAfter (ppuStart 100 [(0xFF44, 0x50)]) 24 = (0, 100) := by decide +kernel
theorem test_PV2_first_line : lineAfter (ppuStart 450 [(0x8000, 0xFF), (0xFF40, 0x80)]) 8 = (1, 2) ∧
    pixelCodes (ppuStart 450 [(0x8000, 0xFF), (0xFF40, 0x80)]) 0 [0, 7, 159] = [1, 1, 1] := by decide +kernel
theorem test_PV3_wrap : lineAfter (ppuStart 455 [(0xFF40, 0x80), (0xFF44, 153)]) 4 = (0, 3) := by decide +kernel
theorem test_PV5_hidden_line : lineAfter (ppuStart 455 [(0xFF40, 0x80), (0xFF44, 144)]) 1 = (145, 0) := by decide +kernel
theorem test_PV6_LY_out_of_range : lineAfter (ppuStart 455 [(0xFF40, 0x80), (0xFF44, 200)]) 1 = (47, 0) := by decide +kernel
theorem test_PV7_wrap_256 : pixelCodes (ppuStart 455 (solidTile 0x9800 [(0xFF40, 0x80), (0xFF43, 0xFC)])) 0
    [0, 1, 2, 3, 4, 5, 6, 7, 8, 9, 10, 11, 156, 159] = [0, 0, 0, 0, 3, 3, 3, 3, 3, 3, 3, 3, 0, 0] := by decide +kernel
theorem test_PV7_wrap_255 :
    pixelCodes { ppuStart 455 (solidTile 0x9800 [(0xFF40, 0x80), (0xFF43, 0xFC)]) with cfg := { Config.standard with bgWrap := .wrap255 } }
      0 [0, 1, 2, 3, 4, 5, 6, 7, 8, 9, 10, 11, 156, 159] = [0, 0, 0, 3, 3, 3, 3, 3, 3, 3, 3, 0, 0, 0] := by decide +kernel
theorem test_PV8_vertical_scroll : pixelCodes (ppuStart 455 (solidTile 0x9820 [(0xFF40, 0x80), (0xFF42, 8)])) 0 [0, 7, 8, 159]
    = [3, 3, 0, 0] := by decide +kernel
theorem test_PV9_bitplanes : (List.range 8).map (fun x => (bgIndex [(0x8000, 0x3C), (0x8001, 0x7E)] x 0).val)
    = [0, 2, 3, 3, 3, 3, 2, 0] := by decide +kernel
theorem test_PV10_palette : pixelCodes ((ppuStart 0 [(0x8000, 0x3C), (0x8001, 0x7E)]).memWrite 0xFF47 0x1B) 0 [0, 1, 2, 3, 4, 5, 6, 7]
    = [3, 1, 0, 0, 0, 0, 1, 3] := by decide +kernel
theorem test_PV11_plain_write : (State.reset.plainWrite 0xFF47 0x1B).ppu.palette = ⟨.white, .lightGray, .darkGray, .black⟩ := by decide

/-! ## The APU (95_test_vectors.md AV1 to AV9) -/

/-- What the vectors show of a channel: enabled, volume, duty, position, channel timer, period timer. -/
def channelView (ch : Channel) : Bool × Nat × Nat × Nat × Nat × Nat :=
  (ch.enabled, ch.volume.val, ch.duty.val, ch.dutyPos.val, ch.chanTimer, ch.periodTimer)

/-- The registers of AV1. -/
def av1 : State := start Cpu.reset [(0xFF11, 0x80), (0xFF12, 0xF1), (0xFF14, 0x87)]

theorem test_AV1_duty_step : channelView (av1.apuTick 1024).apu.ch1 = (true, 15, 2, 1, 1024, 64512) ∧
    (av1.apuTick 1024).memRead 0xFF14 = 0x07 ∧ (av1.apuTick 1024).apu.sampleTimer = 21 := by decide +kernel
theorem test_AV1_samples : (av1.apuTick 1024).samples = [0, 0, 0, 0, 0, 0, 0, 0, 0, 0] := by decide +kernel
theorem test_AV2_volume_step : channelView ((av1.apuTick 1024).apuTick 64512).apu.ch1 = (true, 14, 2, 0, 1024, 65536) := by
  decide +kernel
theorem test_AV3_decay_to_disable :
    channelView ((start Cpu.reset [(0xFF12, 0x11), (0xFF14, 0x80)]).apuTick 65536).apu.ch1 = (false, 0, 0, 0, 8192, 65536) := by
  decide +kernel
theorem test_AV4_fastest_step :
    channelView ((start Cpu.reset [(0xFF16, 0xC0), (0xFF17, 0xA0), (0xFF18, 0xFF), (0xFF19, 0x87)]).apuTick 24).apu.ch2
      = (true, 10, 3, 6, 4, 0) := by decide +kernel
theorem test_AV5_sample_timer : (State.reset.apuTick 94).samples = [] ∧ (State.reset.apuTick 94).apu.sampleTimer = 1 ∧
    ((State.reset.apuTick 94).apuTick 1).samples = [0] ∧ ((State.reset.apuTick 94).apuTick 1).apu.sampleTimer = 95 := by
  decide +kernel
theorem test_AV6_mix :
    ((start Cpu.reset [(0xFF11, 0x40), (0xFF12, 0xA0), (0xFF14, 0x80), (0xFF17, 0xF0), (0xFF19, 0x80)]).apuTick 95).samples = [10] := by
  decide +kernel
theorem test_AV7_start_volume_0 :
    (((start Cpu.reset [(0xFF11, 0xC0), (0xFF12, 0x07), (0xFF14, 0x80)]).apuTick 95).apu.ch1.enabled = true) ∧
    (((start Cpu.reset [(0xFF11, 0xC0), (0xFF12, 0x07), (0xFF14, 0x80)]).apuTick 95).apuTick (7 * 65536 - 95)).apu.ch1.enabled = false
    := by decide +kernel
theorem test_AV8_untriggered : ((start Cpu.reset [(0xFF12, 0xF0), (0xFF14, 0x07)]).apuTick 1000).apu.ch1 = Channel.reset ∧
    ((start Cpu.reset [(0xFF12, 0xF0), (0xFF14, 0x07)]).apuTick 1000).memRead 0xFF14 = 0x07 := by decide +kernel
theorem test_AV9_retrigger : channelView (((av1.apuTick 1024).plainWrite 0xFF14 0x87).apuTick 10).apu.ch1
    = (true, 15, 2, 0, 1014, 65526) := by decide +kernel

/-! ## The driver and the host calls (95_test_vectors.md DV1 to DV7, HV1 to HV10) -/

/-- A machine at reset with an image. -/
def machine (image : List Byte) : State := { State.reset with mem := Memory.ofImage 0 image }

/-- What the driver vectors show of a call: the result and PC after it. -/
def tickView (r : TickResult × State) : TickResult × Word := (r.1, r.2.cpu.pc)

theorem test_DV1_budget_0 : tickView (frameTick (machine [0x18, 0xFE]) 0 []) = (.frameComplete, 0x0000) := by decide +kernel
theorem test_DV2_breakpoint_at_start : tickView (frameTick (machine [0x18, 0xFE]) 1000000 [0x0000]) = (.hitBreakpoint, 0x0000) := by
  decide +kernel
theorem test_DV3_both_tests : tickView (frameTick (machine []) 4 [0x0002]) = (.hitBreakpoint, 0x0002) := by decide +kernel
theorem test_DV4_strict_budget : tickView (frameTick (machine []) 4 []) = (.frameComplete, 0x0002) := by decide +kernel
theorem test_DV5_fault_in_a_tick : tickView (frameTick ((machine [0x00, 0x76]).setMemoryAt 0xFF40 0x80) 1000000 [])
    = (.decodeError (.decodeError .unknownOpcode 0x0001 0x76), 0x0001) := by decide +kernel
theorem test_DV5_devices : (frameTick ((machine [0x00, 0x76]).setMemoryAt 0xFF40 0x80) 1000000 []).2.ppu.acc = 4 ∧
    (frameTick ((machine [0x00, 0x76]).setMemoryAt 0xFF40 0x80) 1000000 []).2.apu.sampleTimer = 91 := by decide +kernel
theorem test_DV7_step_once : (stepOnce (machine [0x3E, 0x80, 0xE0, 0x40])).1 = .cyclesConsumed 8 ∧
    (stepOnce (stepOnce (machine [0x3E, 0x80, 0xE0, 0x40])).2).1 = .cyclesConsumed 12 ∧
    (stepOnce (stepOnce (machine [0x3E, 0x80, 0xE0, 0x40])).2).2.ppu.acc = 12 := by decide +kernel

theorem test_HV1_f_mask : (State.reset.setRegister8 .f 0xFF).getRegister8 .f = 0xF0 := by decide
theorem test_HV3_pc : (State.reset.setRegister16 .pc 0x0150).getRegister16 .pc = 0x0150 := by decide
theorem test_HV4_flags : (State.reset.setFlag .c true).getRegister8 .f = 0x10 ∧ (State.reset.setFlag .c true).getFlag .z = false := by
  decide
theorem test_HV5_slice_clamps : (State.reset.getMemorySlice 0xFFF0 32).length = 16 := by decide
theorem test_HV6_empty_slice : State.reset.getMemorySlice 0x1234 0 = [] := by decide
theorem test_HV7_host_write : (State.reset.setMemoryAt 0xFF47 0x1B).ppu.palette = ⟨.black, .darkGray, .lightGray, .white⟩ := by
  decide +kernel
theorem test_HV8_oversized_image : construct Config.standard (List.replicate 65537 0) = .refused (.imageTooLong 65537) := by
  rw [construct, test_wf_image_too_long.1, if_neg Bool.false_ne_true, List.length_replicate]
theorem test_HV9_listing :
    (List.range 6).map (machine [0x31, 0xFE, 0xFF, 0xAF, 0x05, 0xCD, 0x04, 0x00, 0xFF]).getOpcodeWithOffset =
      [("LD SP,0xFFFE", 0x0000), ("XOR A", 0x0003), ("DEC B", 0x0004), ("CALL 0x0004", 0x0005), ("unknown instruction", 0x0008),
        ("NOP", 0x0009)] := by decide +kernel
theorem test_HV10_texts :
    [[0x20, 0xFE], [0xF8, 0x05], [0xF8, 0xFE], [0xE8, 0x01], [0xE0, 0x44], [0xCB, 0x7C], [0xCB, 0x16]].map
        (fun image => (machine image).getCurrentInstructionText) =
      ["JR NZ,-2", "LD HL,SP+5", "LD HL,SP-2", "ADD SP,+1", "LDH (0x44),A", "BIT 7,H", "unknown instruction"] := by decide +kernel

/-- The state a step answers, where it answers one. -/
def after (s : State) : State :=
  match step s with
  | .next t => t
  | _ => s

/-- 20_memory.md R52: the palette observer of a store to BGP by an instruction (vector L16). -/
theorem test_L16_palette :
    (after (start { Cpu.reset with a := 0x1B } [(0, 0xE0), (1, 0x47)])).ppu.palette = ⟨.black, .darkGray, .lightGray, .white⟩ := by
  decide +kernel

/-! ## Witnesses: for each statement with hypotheses, a state and operands that meet them -/

/-- Reset with PC and memory of one's choice. -/
def codeAt (pc : Word) (mem : Memory) : State := start { Cpu.reset with pc := pc } mem

/-- `Reports`: the machine runs with the cycle table of the rules. -/
theorem witness_StandardCycles : StandardCycles State.reset := rfl

/-- PostAdjustAfterTransfer. -/
theorem witness_PostAdjustAfterTransfer : Arg.indirect .hl .inc ∈ Form.ldIndIncA.instr.shape.args ∧
    Arg.indirect .hl .dec ∈ Form.ldAIndDec.instr.shape.args := by decide

/-- ByteStores, StoreOfSp, Calls, Pushes, MemWriteAndObservers: the clauses of a store, at the two observed addresses and beside them, and
at both ends of the DMA destination. -/
theorem witness_Stored : State.reset.cfg.dmaEnabled = true ∧ State.reset.dmaTouches 0xFF46 0xFE00 ∧ State.reset.dmaTouches 0xFF46 0xFE9F ∧
    ¬ State.reset.dmaTouches 0xFF46 0xFDFF ∧ ¬ State.reset.dmaTouches 0xFF46 0xFEA0 ∧ ¬ State.reset.dmaTouches 0xFF47 0xFE00 := by
  simp only [State.dmaTouches]
  decide

/-- ConditionalJumps, Calls, Returns: every condition holds in one state and not in another. -/
theorem witness_conditions : ∀ cc : Cond, cc ∈ [Cond.nz, .z, .nc, .c] →
    (State.reset.cond cc = true ∧ (State.reset.setFlags ⟨true, false, false, true⟩).cond cc = false) ∨
    (State.reset.cond cc = false ∧ (State.reset.setFlags ⟨true, false, false, true⟩).cond cc = true) := by decide

/-- ByteRegisterWrite, PairRegisterAccess: a label other than F, and another beside it. -/
theorem witness_registers : Reg8.a ≠ .f ∧ Reg8.l ≠ .a ∧ Reg16.bc ≠ .af := by decide

/-- FlagsInF: another flag, and both ends of the low nibble. -/
theorem witness_FlagsInF : Flag.n ≠ .z ∧ (0 : Nat) < 4 ∧ (3 : Nat) < 4 := by decide

/-- ConstructionResets: the longest image and the shortest one that is too long. -/
theorem witness_ConstructionResets : (List.replicate 65536 (0 : Byte)).length ≤ 65536 ∧
    65536 < (List.replicate 65537 (0 : Byte)).length := by
  rw [List.length_replicate, List.length_replicate]
  decide

/-- MemorySliceClamps: the first and the last byte of a clamped slice. -/
theorem witness_MemorySliceClamps : 0 < (State.reset.getMemorySlice 0xFFF0 32).length ∧ 15 < (State.reset.getMemorySlice 0xFFF0 32).length := by
  decide

/-- EncodedInstructionDecodes: a three-byte instruction as high as it fits. -/
theorem witness_EncodedInstructionDecodes : Instr.fitsAt (.ld_BC_d16 0x1234) 0xFFFD = true ∧
    BytesAt [(0xFFFD, 0x01), (0xFFFE, 0x34), (0xFFFF, 0x12)] (0xFFFD : Word).toNat (encode (.ld_BC_d16 0x1234)) := by
  refine ⟨by decide, fun k hk => ?_⟩
  have : k = 0 ∨ k = 1 ∨ k = 2 := by simp [encode] at hk; omega
  rcases this with rfl | rfl | rfl <;> decide

/-- DecodedInstructionEncodesBack. -/
theorem witness_DecodedInstructionEncodesBack : decodeAt 0xFFFE [(0xFFFE, 0xCB), (0xFFFF, 0x7C)] = .ok .bit_7_H := by decide +kernel

/-- AdmittedOpcodes. -/
theorem witness_AdmittedOpcodes : (0x76 : Byte) ≠ 0xCB := by decide

/-- WhenAStepFaults, the prefix at 0xFFFF. -/
theorem witness_WhenAStepFaults_prefix_at_top : (codeAt 0xFFFF [(0xFFFF, 0xCB)]).memRead 0xFFFF = 0xCB := by decide

/-- No instruction is a prefix followed by 0x16. -/
theorem witness_WhenAStepFaults_prefixed : (codeAt 0xFFFE [(0xFFFE, 0xCB), (0xFFFF, 0x16)]).memRead 0xFFFE = 0xCB ∧
    (codeAt 0xFFFE [(0xFFFE, 0xCB), (0xFFFF, 0x16)]).mem.read 0xFFFF = 0x16 ∧ ∀ i, encode i ≠ [0xCB, 0x16] :=
  ⟨by decide, by decide, fun i => by cases i <;> simp [encode]⟩

/-- No instruction begins with 0x76. -/
theorem witness_WhenAStepFaults_unprefixed : (codeAt 0xFFFF [(0xFFFF, 0x76)]).memRead 0xFFFF = 0x76 ∧ ∀ i, (encode i).head? ≠ some 0x76 :=
  ⟨by decide, fun i => by cases i <;> simp [encode]⟩

/-- WhenAStepFaults, instructions that do not fit, each one byte too high, and instructions that just fit. -/
theorem witness_WhenAStepFaults_boundary :
    ((encode (.jp_a16 0)).head? = some 0xC3 ∧ 0xFFFE + Instr.size (.jp_a16 0) > 0x10000) ∧
    ((encode (.ld_A_d8 0)).head? = some 0x3E ∧ 0xFFFF + Instr.size (.ld_A_d8 0) > 0x10000) ∧
    ((encode .nop).head? = some (0x00 : Byte) ∧ 0xFFFF + Instr.size .nop ≤ 0x10000) ∧
    ((encode .bit_7_H).head? = some 0xCB ∧ encode .bit_7_H = [0xCB, 0x7C] ∧ 0xFFFE + Instr.size .bit_7_H ≤ 0x10000) := by decide

/-- StepRunsTheDecodedInstruction, with no enable pending, with one due, and with one scheduled. -/
theorem witness_StepRunsTheDecodedInstruction : Instr.fitsAt .nop 0xFFFF = true ∧ BytesAt (codeAt 0xFFFF []).mem 0xFFFF (encode .nop) ∧
    (codeAt 0xFFFF []).cpu.eiDelay = 0 ∧ ((codeAt 0xFFFF []).setEiDelay 1).cpu.eiDelay = 1 ∧
    ((codeAt 0xFFFF []).setEiDelay 2).cpu.eiDelay = 2 := by
  refine ⟨by decide, fun k hk => ?_, rfl, rfl, rfl⟩
  have : k = 0 := by simpa [encode] using hk
  subst this; decide

/-- FaultLeavesTheState. -/
theorem witness_FaultLeavesTheState : step (codeAt 0x0001 [(0x0001, 0x76)]) = .fault (.decodeError .unknownOpcode 0x0001 0x76) := by
  rfl

/-- An EI at 0 and an opcode after it. -/
def eiThen (op : Byte) : State := codeAt 0 [(0, 0xFB), (1, op)]

/-- EiTakesEffectOneStepLater: an EI, and after it a DI. -/
theorem witness_EiTakesEffectOneStepLater_di : decodeAt (eiThen 0xF3).cpu.pc (eiThen 0xF3).mem = .ok .ei ∧
    step (eiThen 0xF3) = .next (after (eiThen 0xF3)) ∧
    decodeAt (after (eiThen 0xF3)).cpu.pc (after (eiThen 0xF3)).mem = .ok .di ∧
    step (after (eiThen 0xF3)) = .next (after (after (eiThen 0xF3))) := ⟨rfl, rfl, rfl, rfl⟩

/-- EiTakesEffectOneStepLater: an EI, and after it an EI. -/
theorem witness_EiTakesEffectOneStepLater_ei : decodeAt (eiThen 0xFB).cpu.pc (eiThen 0xFB).mem = .ok .ei ∧
    step (eiThen 0xFB) = .next (after (eiThen 0xFB)) ∧
    decodeAt (after (eiThen 0xFB)).cpu.pc (after (eiThen 0xFB)).mem = .ok .ei ∧
    step (after (eiThen 0xFB)) = .next (after (after (eiThen 0xFB))) := ⟨rfl, rfl, rfl, rfl⟩

/-- EiTakesEffectOneStepLater: an EI, and after it neither a DI nor an EI. -/
theorem witness_EiTakesEffectOneStepLater_other : decodeAt (eiThen 0x37).cpu.pc (eiThen 0x37).mem = .ok .ei ∧
    step (eiThen 0x37) = .next (after (eiThen 0x37)) ∧
    decodeAt (after (eiThen 0x37)).cpu.pc (after (eiThen 0x37)).mem = .ok .scf ∧
    step (after (eiThen 0x37)) = .next (after (after (eiThen 0x37))) := ⟨rfl, rfl, rfl, rfl⟩

/-- InterruptStateIsNeverObserved: two states that do differ. -/
theorem witness_InterruptStateIsNeverObserved : SameButInterrupts State.reset (State.reset.setIme true) ∧
    State.reset.cpu.ime ≠ (State.reset.setIme true).cpu.ime := ⟨rfl, by decide⟩

/-- StepKeepsTheInvariant: a state that meets the invariant and takes a step. -/
theorem witness_StepKeepsTheInvariant : Inv State.reset ∧ step State.reset = .next (after State.reset) := by
  refine ⟨⟨by decide, by decide, by decide, ⟨?_, ?_⟩, ⟨?_, ?_⟩⟩, rfl⟩ <;> intro h <;> exact absurd h (by decide)

/-- BuiltMachineMeetsTheInvariant. -/
theorem witness_BuiltMachineMeetsTheInvariant : Config.standard.wellFormed = true ∧
    construct Config.standard [0x00, 0x76] = .next (machine [0x00, 0x76]) := ⟨by decide, rfl⟩

/-- PpuTickCountsLines, CrossingRendersItsRow, DeviceRegistersAfterAStep: the LCD off, and on with a tick that just crosses, one that just does
not, and the longest that crosses once. -/
theorem witness_ppu : (State.reset.memRead 0xFF40).getLsbD 7 = false ∧ ((ppuStart 455 [(0xFF40, 0x80)]).memRead 0xFF40).getLsbD 7 = true ∧
    456 ≤ (ppuStart 455 [(0xFF40, 0x80)]).ppu.acc.val + 1 ∧ (ppuStart 455 [(0xFF40, 0x80)]).ppu.acc.val + 0 < 456 ∧
    (ppuStart 455 [(0xFF40, 0x80)]).ppu.acc.val + 456 < 912 := by decide

/-- CrossingRendersItsRow: the first and the last visible row. -/
theorem witness_rows : (((ppuStart 455 [(0xFF40, 0x80)]).memRead 0xFF44).toNat + 1) % 154 = (0 : Fin 144).val + 1 ∧
    (((ppuStart 455 [(0xFF40, 0x80), (0xFF44, 143)]).memRead 0xFF44).toNat + 1) % 154 = (143 : Fin 144).val + 1 := by decide

/-- BackgroundViewOfATile: zeroed memory under the default palette, and a memory with one solid tile. -/
theorem witness_BackgroundView_zeroed : State.reset.ppu.palette = ⟨.white, .lightGray, .darkGray, .black⟩ ∧
    ∀ a : Nat, State.reset.mem.read a = 0 := ⟨rfl, fun _ => rfl⟩
theorem read_of_not_listed (a : Nat) : ∀ m : Memory, (∀ c ∈ m, c.1 ≠ a) → m.read a = 0
  | [], _ => rfl
  | c :: m, h => by
    rw [Memory.read, if_neg (h c (by simp))]
    exact read_of_not_listed a m fun d hd => h d (List.mem_cons_of_mem _ hd)
theorem witness_BackgroundView_tile :
    ∀ a : Nat, Memory.read ((List.range 16).map (fun k => (0x8010 + k, (0xFF : Byte))) ++ [(0x9800, 0x01)]) a =
      if a = 0x9800 then 1 else if 0x8010 ≤ a ∧ a ≤ 0x801F then 0xFF else 0 := by
  intro a
  by_cases h1 : a = 0x9800
  · subst h1; decide
  · by_cases h2 : 0x8010 ≤ a ∧ a ≤ 0x801F
    · obtain ⟨l, u⟩ := h2
      interval_cases a <;> decide
    · rw [if_neg h1, if_neg h2]
      refine read_of_not_listed a _ fun c hc => ?_
      simp only [List.mem_append, List.mem_map, List.mem_range, List.mem_singleton] at hc
      obtain ⟨k, hk, rfl⟩ | rfl := hc <;> simp <;> omega

/-- CountDownIsTheLoop, CountDownAddsUp. -/
theorem witness_countDown : (1 : Nat) ≤ 1 ∧ (1 : Nat) ≤ 95 := by decide

/-- TriggerStartsTheChannel: a set and a clear trigger bit, and another channel. -/
theorem witness_TriggerStartsTheChannel : (av1.memRead ChannelId.one.nr4).getLsbD 7 = true ∧
    (av1.memRead ChannelId.two.nr4).getLsbD 7 = false ∧ ChannelId.two ≠ .one := by decide

/-- ChannelAdvances: disabled; enabled with a period; enabled without. -/
theorem witness_ChannelAdvances : Channel.reset.enabled = false ∧ (av1.triggered .one).enabled = true ∧
    0 < (av1.triggered .one).periodReload ∧ (State.reset.triggered .one).enabled = true ∧ (State.reset.triggered .one).periodReload = 0 := by
  decide +kernel

/-- OneFullPeriod: a channel with both periods and a volume, and a time just short of each period. -/
theorem witness_OneFullPeriod : 1 ≤ av1.cfg.dutyStepScale ∧ 1023 < (av1.triggered .one).chanReload ∧
    1 ≤ (av1.triggered .one).periodReload ∧ 65535 < (av1.triggered .one).periodReload ∧ 1 ≤ (av1.triggered .one).volume.val := by
  decide +kernel

/-- FrameTickEnds. -/
theorem witness_FrameTickEnds : State.reset.cfg.wellFormed = true := by decide

/-- A run that stands still: JR -2 at 0, the states from reset on. -/
def still : Nat → State
  | 0 => machine [0x18, 0xFE]
  | k + 1 => after (still k)

/-- BreakpointIsNotOvershot, the breakpoint: one step of the run ends at 0. -/
theorem witness_BreakpointIsNotOvershot_hit : (still 0).cfg.wellFormed = true ∧ RunOf 1 still ∧ (still 1).cpu.pc ∈ [(0x0000 : Word)] := by
  refine ⟨by decide, fun k hk => ?_, by decide +kernel⟩
  have : k = 0 := by omega
  subst this; rfl

/-- BreakpointIsNotOvershot, the budget: the second step passes a budget of 12, which the first only meets. -/
theorem witness_BreakpointIsNotOvershot_complete : RunOf 2 still ∧ (still 1).cpu.pc ∉ [(0x0002 : Word)] ∧ cyclesOfRun still 1 ≤ 12 ∧
    (still 2).cpu.pc ∉ [(0x0002 : Word)] ∧ 12 < cyclesOfRun still 2 := by
  refine ⟨fun k hk => ?_, by decide +kernel, by decide +kernel, by decide +kernel, by decide +kernel⟩
  have : k = 0 ∨ k = 1 := by omega
  rcases this with rfl | rfl <;> rfl

/-- A run of one NOP onto a byte that is not admitted. -/
def intoFault : Nat → State
  | 0 => machine [0x00, 0x76]
  | k + 1 => after (intoFault k)

/-- BreakpointIsNotOvershot, the fault: after one step that just meets the budget the next one faults. -/
theorem witness_BreakpointIsNotOvershot_fault : (intoFault 0).cfg.wellFormed = true ∧ RunOf 1 intoFault ∧
    (intoFault 1).cpu.pc ∉ [(0x0002 : Word)] ∧ cyclesOfRun intoFault 1 ≤ 4 ∧
    step (intoFault 1) = .fault (.decodeError .unknownOpcode 0x0001 0x76) := by
  refine ⟨by decide, fun k hk => ?_, by decide +kernel, by decide +kernel, rfl⟩
  have : k = 0 := by omega
  subst this; rfl

end Sys2Proof.Tests
end

section
/-! PROOFS. The register file as the host reads and writes it (10_state.md R22, R24, R26): the labels other than F are the operand
registers, and F is read bit by bit. -/

namespace Sys2Proof.Machine

/-! ### The labels other than F -/

/-- The host's label of an operand register (10_state.md R31). -/
def regLabel : Reg → Reg8
  | .b => .b
  | .c => .c
  | .d => .d
  | .e => .e
  | .h => .h
  | .l => .l
  | .a => .a

/-- F is the only label that names no operand register. -/
theorem exists_regLabel_eq {r : Reg8} (h : r ≠ .f) : ∃ q, regLabel q = r := by
  cases r with
  | f => exact absurd rfl h
  | a => exact ⟨.a, rfl⟩
  | b => exact ⟨.b, rfl⟩
  | c => exact ⟨.c, rfl⟩
  | d => exact ⟨.d, rfl⟩
  | e => exact ⟨.e, rfl⟩
  | h => exact ⟨.h, rfl⟩
  | l => exact ⟨.l, rfl⟩

@[simp] theorem State.getRegister8_f (s : State) : s.getRegister8 .f = s.cpu.flags.toByte := rfl

@[simp] theorem State.getRegister8_regLabel (s : State) (q : Reg) : s.getRegister8 (regLabel q) = s.reg q := by
  cases q <;> rfl

@[simp] theorem State.setRegister8_regLabel (s : State) (q : Reg) (v : Byte) :
    s.setRegister8 (regLabel q) v = s.setReg q v := by
  cases q <;> rfl

/-- 10_state.md R22: a write of an operand register leaves every other label, F among them, as it was. -/
theorem State.getRegister8_setReg_of_ne (s : State) {q : Reg} {r : Reg8} (v : Byte) (h : r ≠ regLabel q) :
    (s.setReg q v).getRegister8 r = s.getRegister8 r := by
  by_cases hf : r = .f
  · subst hf
    simp
  · obtain ⟨p, rfl⟩ := exists_regLabel_eq hf
    have hpq : p ≠ q := fun e => h (congrArg regLabel e)
    simp [hpq]

/-! ### The flags -/

/-- 10_state.md R26: the flag written reads back, every other keeps its value. -/
theorem Flags.get_set (fl : Flags) (f g : Flag) (v : Bool) : (fl.set f v).get g = if g = f then v else fl.get g := by
  cases f <;> cases g <;> rfl

/-- A flag read after a flag write (10_state.md R26). -/
@[simp] theorem State.getFlag_setFlag (s : State) (f g : Flag) (v : Bool) :
    (s.setFlag f v).getFlag g = if g = f then v else s.getFlag g :=
  Flags.get_set s.cpu.flags f g v

/-- The bit of F that holds a flag (10_state.md R24). -/
def flagBit : Flag → Nat
  | .z => 7
  | .n => 6
  | .h => 5
  | .c => 4

/-- One flag's share of F: a byte with at most the bit `i` set. -/
theorem getLsbD_ite_twoPow (b : Bool) {i : Nat} (hi : i < 8) (k : Nat) :
    (if b then BitVec.twoPow 8 i else 0).getLsbD k = (b && decide (k = i)) := by
  cases b with
  | false => simp
  | true => simp only [if_true, BitVec.getLsbD_twoPow, hi, decide_true, Bool.true_and, eq_comm]

/-- 10_state.md R24: which bit of F is which flag; no other bit is ever set. -/
theorem Flags.getLsbD_toByte (fl : Flags) (k : Nat) : fl.toByte.getLsbD k =
    (fl.z && decide (k = 7) || fl.n && decide (k = 6) || fl.h && decide (k = 5) || fl.c && decide (k = 4)) := by
  calc fl.toByte.getLsbD k
      = ((if fl.z then BitVec.twoPow 8 7 else 0) ||| (if fl.n then BitVec.twoPow 8 6 else 0) |||
          (if fl.h then BitVec.twoPow 8 5 else 0) ||| (if fl.c then BitVec.twoPow 8 4 else 0)).getLsbD k := rfl
    _ = _ := by simp only [BitVec.getLsbD_or, getLsbD_ite_twoPow, Nat.reduceLT]

/-- 10_state.md R24: each flag stands at its bit of F. -/
theorem State.getLsbD_f_flagBit (s : State) (f : Flag) :
    (s.getRegister8 .f).getLsbD (flagBit f) = s.getFlag f := by
  rw [State.getRegister8_f, Flags.getLsbD_toByte]
  cases f <;> simp [flagBit, State.getFlag, Flags.get]

/-- 10_state.md R24: the low nibble of F is zero. -/
theorem State.getLsbD_f_of_lt_four (s : State) {k : Nat} (hk : k < 4) :
    (s.getRegister8 .f).getLsbD k = false := by
  have h7 : k ≠ 7 := by omega
  have h6 : k ≠ 6 := by omega
  have h5 : k ≠ 5 := by omega
  have h4 : k ≠ 4 := by omega
  simp [Flags.getLsbD_toByte, h7, h6, h5, h4]

end Sys2Proof.Machine

open Sys2Proof.Machine

/-- Settles O31: each flag stands at its bit of F, the low nibble of F is zero in every state, so before a flag write as after it, and
a flag write changes that flag only. -/
theorem flagsInF : Obligations.FlagsInF := by
  intro s f v k
  refine ⟨⟨s.getLsbD_f_flagBit .z, s.getLsbD_f_flagBit .n, s.getLsbD_f_flagBit .h, s.getLsbD_f_flagBit .c⟩,
    fun hk => s.getLsbD_f_of_lt_four hk, by simp, fun g hg => by simp [hg], fun hk => ?_⟩
  rw [s.getLsbD_f_of_lt_four hk, (s.setFlag f v).getLsbD_f_of_lt_four hk]

/-- Settles O29: a label other than F is an operand register, and a write of an operand register changes no other. -/
theorem byteRegisterWrite : Obligations.ByteRegisterWrite := by
  intro r v s hr
  obtain ⟨q, rfl⟩ := exists_regLabel_eq hr
  rw [State.setRegister8_regLabel]
  exact ⟨by simp, fun _ h => s.getRegister8_setReg_of_ne v h, s.setReg_sp q v, s.setReg_pc q v⟩
end

section
/-! PROOFS. Decoding against the encoder (30_encoding.md R85, R86, R93): the decode tables and `encode` agree entry by entry, so the
bytes given to the decoder begin with the encoding of the instruction it answers, and no byte after that one matters. -/

namespace Sys2Proof

/-! ### The entries of the decode tables -/

section
variable {α : Type} (P : Byte → α → Prop)

/-- Every entry of one row of a decode table meets `P` at its byte; the first entry stands at byte `n`. -/
def EntriesMeet (n : Nat) : List (Option α) → Prop
  | [] => True
  | none :: row => EntriesMeet (n + 1) row
  | some x :: row => P (BitVec.ofNat 8 n) x ∧ EntriesMeet (n + 1) row

/-- Every entry of a decode table meets `P` at its byte; the high nibble of the first row is `n`. -/
def RowsMeet (n : Nat) : List (List (Option α)) → Prop
  | [] => True
  | row :: rows => EntriesMeet P (16 * n) row ∧ RowsMeet (n + 1) rows

variable {P}

theorem EntriesMeet.getD {x : α} : ∀ {row : List (Option α)} {n k : Nat}, EntriesMeet P n row → row.getD k none = some x →
    P (BitVec.ofNat 8 (n + k)) x
  | [], _, _, _, hx => by simp at hx
  | some _ :: _, _, 0, h, hx => by
    obtain rfl : _ = x := by simpa using hx
    exact h.1
  | none :: _, _, 0, _, hx => by simp at hx
  | some _ :: _, n, k + 1, h, hx => Nat.add_right_comm n 1 k ▸ h.2.getD (by simpa using hx)
  | none :: row, n, k + 1, h, hx => Nat.add_right_comm n 1 k ▸ EntriesMeet.getD (row := row) h (by simpa using hx)

theorem RowsMeet.getD : ∀ {rows : List (List (Option α))} {n k : Nat}, RowsMeet P n rows →
    EntriesMeet P (16 * (n + k)) (rows.getD k [])
  | [], _, _, _ => by simp [EntriesMeet]
  | _ :: _, _, 0, h => h.1
  | _ :: _, n, k + 1, h => Nat.add_right_comm n 1 k ▸ h.2.getD

/-- What is found in a table at a byte meets what every entry meets at its byte. -/
theorem RowsMeet.lookup {t : List (List (Option α))} {op : Byte} {x : α} (h : RowsMeet P 0 t) (hx : lookupTable t op = some x) :
    P op x := by
  have hn : 16 * (0 + op.toNat / 16) + op.toNat % 16 = op.toNat := by omega
  have hP := h.getD.getD hx
  rwa [hn, BitVec.ofNat_toNat, BitVec.setWidth_eq] at hP

end

/-- The instructions of an entry of the unprefixed table encode to the opcode and the operand bytes, low byte first
(30_encoding.md R81). -/
def Row.EncodesAt (op : Byte) : Row → Prop
  | .op i => encode i = [op]
  | .n8 mk => encode ∘ mk = fun n => [op, n]
  | .n16 mk => encode ∘ mk = fun w => [op, lo w, hi w]

/-- 30_encoding.md R90 against the encoder: all entries, each by computation. -/
theorem unprefixedTable_encodes : RowsMeet Row.EncodesAt 0 unprefixedTable := by
  and_intros <;> trivial

/-- 30_encoding.md R91 against the encoder: 0xCB, then the entry's byte (R89). -/
theorem prefixedTable_encodes : RowsMeet (fun op i => encode i = [prefixByte, op]) 0 prefixedTable := by
  and_intros <;> trivial

/-! ### Decoding reads the encoding and nothing after it -/

/-- A decoded instruction encodes to the first of the bytes it was decoded from (30_encoding.md R93): one case for each way to an
instruction, by the entry that the table has there. -/
theorem encode_prefix_of_decodeBytes {op : Byte} {rest : List Byte} {i : Instr} (h : decodeBytes op rest = .ok i) :
    encode i <+: op :: rest := by
  unfold decodeBytes at h
  by_cases hop : op = prefixByte
  · rw [if_pos hop] at h
    rcases rest with _ | ⟨op2, tl⟩
    · cases h
    cases hl : lookupTable prefixedTable op2 with
    | none => simp [hl] at h
    | some j =>
      obtain rfl : j = i := by simpa [hl] using h
      simp [prefixedTable_encodes.lookup hl, hop]
  · rw [if_neg hop] at h
    cases hl : lookupTable unprefixedTable op with
    | none => simp [hl] at h
    | some row =>
      have henc := unprefixedTable_encodes.lookup hl
      cases row with
      | op j =>
        obtain rfl : j = i := by simpa [hl] using h
        exact ⟨rest, by rw [henc]; rfl⟩
      | n8 mk =>
        rcases rest with _ | ⟨n, tl⟩
        · simp [hl] at h
        obtain rfl : mk n = i := by simpa [hl] using h
        exact ⟨tl, congrArg (· ++ tl) (congrFun henc n)⟩
      | n16 mk =>
        rcases rest with _ | ⟨l, _ | ⟨u, tl⟩⟩
        · simp [hl] at h
        · simp [hl] at h
        obtain rfl : mk (join u l) = i := by simpa [hl] using h
        exact ⟨tl, by simpa using congrArg (· ++ tl) (congrFun henc (join u l))⟩

/-- The encoding of an instruction, whatever follows it, decodes to the instruction (30_encoding.md R85). The decoder finds the
entry by computation; a 16-bit operand is its two halves joined. -/
theorem exists_decodeBytes_encode_append (i : Instr) (tl : List Byte) :
    ∃ op rest, encode i ++ tl = op :: rest ∧ decodeBytes op rest = .ok i := by
  cases i <;> refine ⟨_, _, rfl, ?_⟩ <;> change DecodeResult.ok _ = _ <;> simp only [Machine.join_hi_lo]

/-- 30_encoding.md R85, R93: bytes decode to exactly the instruction whose encoding they begin with. -/
theorem decodeBytes_eq_ok_iff {op : Byte} {rest : List Byte} {i : Instr} :
    decodeBytes op rest = .ok i ↔ encode i <+: op :: rest := by
  refine ⟨encode_prefix_of_decodeBytes, fun ⟨tl, htl⟩ => ?_⟩
  obtain ⟨op', rest', henc, hdec⟩ := exists_decodeBytes_encode_append i tl
  obtain ⟨rfl, rfl⟩ := List.cons.inj (henc.symm.trans htl)
  exact hdec

/-- The length of an encoding is the size from category and arguments (30_encoding.md R84, R93). -/
theorem length_encode (i : Instr) : (encode i).length = i.size := by cases i <;> rfl

/-- No encoding is longer than three bytes, the most that a decode fetches (30_encoding.md R81). -/
theorem length_encode_le_three (i : Instr) : (encode i).length ≤ 3 := by
  cases i <;> exact Nat.le_of_ble_eq_true rfl

/-! ### The bytes a decode fetches -/

namespace Machine

/-- The bytes a decode at an address is given: up to three, and none past 0xFFFF (30_encoding.md R85, R86). -/
theorem fetched_eq_map_read (a : Word) (m : Memory) :
    m.read a.toNat :: operandBytes m a = (List.range (min 3 (0x10000 - a.toNat))).map fun k => m.read (a.toNat + k) := by
  have ha := a.isLt
  unfold operandBytes
  split
  · rw [show min 3 (0x10000 - a.toNat) = 3 by omega]; rfl
  · split
    · rw [show min 3 (0x10000 - a.toNat) = 2 by omega]; rfl
    · rw [show min 3 (0x10000 - a.toNat) = 1 by omega]; rfl

/-- The fetched bytes begin with the given ones where these fit, stand in memory, and are no more than a decode fetches. -/
theorem prefix_fetched_iff {a : Word} {m : Memory} {bytes : List Byte} :
    bytes <+: m.read a.toNat :: operandBytes m a ↔
      bytes.length ≤ 3 ∧ a.toNat + bytes.length ≤ 0x10000 ∧ BytesAt m a.toNat bytes := by
  have ha := a.isLt
  rw [fetched_eq_map_read, List.prefix_iff_getElem]
  simp only [List.length_map, List.length_range, List.getElem_map, List.getElem_range]
  constructor
  · rintro ⟨hlen, hget⟩
    refine ⟨by omega, by omega, fun k hk => ?_⟩
    rw [List.getD_eq_getElem _ _ hk, hget k hk]
  · rintro ⟨h3, hfit, hat⟩
    refine ⟨by omega, fun k hk => ?_⟩
    rw [hat k hk, List.getD_eq_getElem _ _ hk]

/-- 30_encoding.md R85, R86, R93: the decode at an address answers exactly the instruction that fits there and whose bytes stand
there. -/
theorem decodeAt_eq_ok_iff {a : Word} {m : Memory} {i : Instr} :
    decodeAt a m = .ok i ↔ i.fitsAt a = true ∧ BytesAt m a.toNat (encode i) := by
  rw [decodeAt, decodeBytes_eq_ok_iff, prefix_fetched_iff, and_iff_right (length_encode_le_three i), length_encode, Instr.fitsAt,
    decide_eq_true_iff]

end Machine

end Sys2Proof

open Sys2Proof Sys2Proof.Machine

/-- Settles O37: a decode at an address answers exactly the instruction that fits and whose encoding stands there, a condition on the
`i.size` bytes of its encoding alone. -/
theorem decodedInstructionEncodesBack : Obligations.DecodedInstructionEncodesBack := by
  intro i a m h
  obtain ⟨hfit, hat⟩ := decodeAt_eq_ok_iff.1 h
  refine ⟨rfl, length_encode i, hfit, hat, fun m' hm' => decodeAt_eq_ok_iff.2 ⟨hfit, fun k hk => ?_⟩⟩
  rw [hm' k (length_encode i ▸ hk), hat k hk]
end

section
/-! PROOFS. Exceptions (60_exceptions.md R280 to R289): a fault comes of the decode alone, so it is a function of PC and memory and the
driver's calls meet it again in the unchanged state; once decoded, every instruction answers a next state. -/

namespace Sys2Proof.Machine

/-! ### The fault of a step -/

/-- The DecodeError that a decode at an address ends in, if it gives no instruction (60_exceptions.md R280). -/
def decodeFault? (a : Word) : DecodeResult → Option Fault
  | .ok _ => none
  | .unknownOpcode v => some (.decodeError .unknownOpcode a v)
  | .unknownPrefixedOpcode v => some (.decodeError .unknownPrefixedOpcode a v)
  | .outOfRange v => some (.decodeError .outOfRange a v)

/-- 60_exceptions.md R280, R285: a step faults exactly when its decode does, and with the fault of its decode. -/
theorem step_eq_fault_iff {s : State} {f : Fault} :
    step s = .fault f ↔ decodeFault? s.cpu.pc (decodeAt s.cpu.pc s.mem) = some f := by
  rcases step_cases s with ⟨i, hd, hs⟩ | ⟨v, hd, hs⟩ | ⟨v, hd, hs⟩ | ⟨v, hd, hs⟩
  all_goals simp [hd, hs, decodeFault?]

/-- 60_exceptions.md R287: states with the same PC and memory fault alike. -/
theorem step_eq_fault_congr {s u : State} (hpc : u.cpu.pc = s.cpu.pc) (hmem : u.mem = s.mem) (f : Fault) :
    step u = .fault f ↔ step s = .fault f := by
  rw [step_eq_fault_iff, step_eq_fault_iff, hpc, hmem]

/-! ### The driver's calls on a fault -/

theorem stepOnce_of_fault {s : State} {f : Fault} (h : step s = .fault f) : stepOnce s = (.decodeError f, s) := by
  simp only [stepOnce, h]

/-- 50_cpu_driver.md R254, R256: the frame tick takes at least one step, and ends where that step faults. -/
theorem frameTick_of_fault {s : State} {f : Fault} (h : step s = .fault f) (budget : Nat) (breakpoints : List Word) :
    frameTick s budget breakpoints = (.decodeError f, s) := by
  simp only [frameTick, frameLoop, h]

/-! ### The absolute load and store of A -/

theorem memRead_ldAbsA (w : Word) (s : State) : (ldAbsA w s).memRead w = s.cpu.a :=
  s.memRead_memWrite_self w s.cpu.a

theorem ldAAbs_a (w : Word) (s : State) : (ldAAbs w s).cpu.a = s.memRead w := rfl

end Sys2Proof.Machine

open Sys2Proof.Machine

/-- Settles O43: the faulting state is a fixed point of the step, and its fault is the one of the decode at its PC in its memory. -/
theorem faultLeavesTheState : Obligations.FaultLeavesTheState := by
  intro s f h
  have hfix : (stepOnce s).2 = s := by rw [stepOnce_of_fault h]
  refine ⟨fun n => ?_, frameTick_of_fault h, fun u hpc hmem => (step_eq_fault_congr hpc hmem f).2 h⟩
  rw [Function.iterate_fixed hfix, stepOnce_of_fault h]

/-- Settles O42: every instruction answers the state its form leaves, and what LD (a16),A stores LD A,(a16) loads again, the observed
addresses among them. -/
theorem nothingIsPrivileged : Obligations.NothingIsPrivileged := by
  refine ⟨fun i s => ⟨_, exec_eq_run i s⟩, fun w s => ?_⟩
  refine ⟨_, _, exec_eq_run (.ld_atA16_A w) s, memRead_ldAbsA w s, exec_eq_run (.ld_A_atA16 w) _, ?_⟩
  exact (ldAAbs_a w _).trans (memRead_ldAbsA w s)
end

section
/-! PROOFS. Decoding (30_encoding.md R81 to R91) and when a step stops (60_exceptions.md R280 to R285): the byte at an address picks the
entry of a table, the entry says how many operand bytes follow, and a decode fails by name when there is no entry or too few bytes. -/

namespace Sys2Proof

/-! ### The entry of a byte -/

/-- The operand bytes that an entry of the unprefixed table takes (30_encoding.md R81). -/
def Row.operandCount : Row → Nat
  | .op _ => 0
  | .n8 _ => 1
  | .n16 _ => 2

/-- 30_encoding.md R85, R87: an unprefixed byte is unknown exactly when its table has no entry for it. -/
theorem decodeBytes_eq_unknownOpcode_iff {op : Byte} {rest : List Byte} (hop : op ≠ prefixByte) :
    decodeBytes op rest = .unknownOpcode op ↔ (lookupTable unprefixedTable op).isNone = true := by
  unfold decodeBytes
  rw [if_neg hop]
  cases lookupTable unprefixedTable op with
  | none => simp
  | some row =>
    cases row with
    | op i => simp
    | n8 mk => cases rest <;> simp
    | n16 mk => rcases rest with _ | ⟨l, _ | ⟨h, tl⟩⟩ <;> simp

/-- 30_encoding.md R85, R91: a byte after the prefix is unknown exactly when its table has no entry for it. -/
theorem decodeBytes_prefix_eq_unknown_iff (op : Byte) (tl : List Byte) :
    decodeBytes prefixByte (op :: tl) = .unknownPrefixedOpcode op ↔ (lookupTable prefixedTable op).isNone = true := by
  unfold decodeBytes
  rw [if_pos rfl]
  cases h : lookupTable prefixedTable op <;> simp [h]

/-- 30_encoding.md R85, R86: an admitted byte decodes to an instruction where its operand bytes are there, and is out of range where they
are not. -/
theorem decodeBytes_of_row {op : Byte} {row : Row} (rest : List Byte) (hop : op ≠ prefixByte)
    (hrow : lookupTable unprefixedTable op = some row) :
    if row.operandCount ≤ rest.length then ∃ i, decodeBytes op rest = .ok i ∧ i.size = 1 + row.operandCount
    else decodeBytes op rest = .outOfRange op := by
  have henc := unprefixedTable_encodes.lookup hrow
  unfold decodeBytes
  rw [if_neg hop, hrow]
  cases row with
  | op i => exact ⟨i, rfl, (length_encode i).symm.trans (congrArg List.length henc)⟩
  | n8 mk =>
    rcases rest with _ | ⟨n, tl⟩
    · rfl
    · exact ⟨mk n, rfl, (length_encode _).symm.trans (congrArg List.length (congrFun henc n))⟩
  | n16 mk =>
    rcases rest with _ | ⟨l, _ | ⟨h, tl⟩⟩
    · rfl
    · rfl
    · exact ⟨mk (join h l), rfl, (length_encode _).symm.trans (congrArg List.length (congrFun henc (join h l)))⟩

/-- An instruction that an unprefixed byte begins has an entry there, with the operand bytes that its size counts. -/
theorem exists_row_of_head {i : Instr} {op : Byte} (hop : op ≠ prefixByte) (hi : (encode i).head? = some op) :
    ∃ row, lookupTable unprefixedTable op = some row ∧ i.size = 1 + row.operandCount := by
  obtain ⟨op', rest, henc, hdec⟩ := exists_decodeBytes_encode_append i []
  rw [List.append_nil] at henc
  obtain rfl : op' = op := by simpa [henc] using hi
  cases hl : lookupTable unprefixedTable op' with
  | none =>
    have hunknown := (decodeBytes_eq_unknownOpcode_iff (rest := rest) hop).2 (by rw [hl]; rfl)
    rw [hdec] at hunknown
    cases hunknown
  | some row =>
    have hrow := decodeBytes_of_row rest hop hl
    rw [hdec] at hrow
    split at hrow
    · obtain ⟨j, hj, hsize⟩ := hrow
      obtain rfl := DecodeResult.ok.inj hj
      exact ⟨row, rfl, hsize⟩
    · cases hrow

/-- An unprefixed byte that begins no instruction has no entry. -/
theorem lookup_unprefixed_isNone {op : Byte} (h : ∀ i, (encode i).head? ≠ some op) :
    (lookupTable unprefixedTable op).isNone = true := by
  cases hl : lookupTable unprefixedTable op with
  | none => rfl
  | some row =>
    have hrow := unprefixedTable_encodes.lookup hl
    cases row with
    | op j => exact absurd (congrArg List.head? hrow) (h j)
    | n8 mk => exact absurd (congrArg List.head? (congrFun hrow 0)) (h (mk 0))
    | n16 mk => exact absurd (congrArg List.head? (congrFun hrow 0)) (h (mk 0))

/-- A byte that makes no instruction after the prefix has no entry. -/
theorem lookup_prefixed_isNone {op : Byte} (h : ∀ i, encode i ≠ [prefixByte, op]) :
    (lookupTable prefixedTable op).isNone = true := by
  cases hl : lookupTable prefixedTable op with
  | none => rfl
  | some i => exact absurd (prefixedTable_encodes.lookup hl) (h i)

/-! ### The bytes without an entry -/

/-- The unprefixed bytes that are not admitted (30_encoding.md R87); the prefix, which is no entry either, stands apart. -/
def unknownOpcodes : List Nat :=
  [0x07, 0x0F, 0x10, 0x1F, 0x27, 0x3F, 0x76, 0x98, 0x99, 0x9A, 0x9B, 0x9C, 0x9D, 0x9E, 0x9F, 0xC7, 0xCF, 0xD3, 0xD7, 0xDB, 0xDD, 0xDE,
    0xDF, 0xE3, 0xE4, 0xE7, 0xEB, 0xEC, 0xED, 0xEF, 0xF4, 0xF7, 0xFC, 0xFD, 0xFF]

theorem lookup_unprefixed_isNone_iff : ∀ op : Byte, op ≠ prefixByte →
    ((lookupTable unprefixedTable op).isNone = true ↔ op.toNat ∈ unknownOpcodes) := by
  decide +kernel

theorem lookup_prefixed_isNone_iff : ∀ op : Byte, (lookupTable prefixedTable op).isNone = true ↔
    op.toNat ≤ 0x0F ∨ op.toNat = 0x16 ∨ (0x18 ≤ op.toNat ∧ op.toNat ≤ 0x2F) ∨ (0x38 ≤ op.toNat ∧ op.toNat ≤ 0x3F) ∨ 0x80 ≤ op.toNat := by
  decide +kernel

namespace Machine

/-! ### The decode of a step -/

/-- The operand bytes on offer: two, but for the last two addresses (30_encoding.md R86). -/
theorem length_operandBytes (a : Word) (m : Memory) : (operandBytes m a).length = min 2 (0xFFFF - a.toNat) := by
  have ha := a.isLt
  unfold operandBytes
  split
  · rw [show min 2 (0xFFFF - a.toNat) = 2 by omega]; rfl
  · split
    · rw [show min 2 (0xFFFF - a.toNat) = 1 by omega]; rfl
    · rw [show min 2 (0xFFFF - a.toNat) = 0 by omega]; rfl

/-- Below 0xFFFF the first operand byte is the next byte of memory. -/
theorem operandBytes_eq_cons {a : Word} (m : Memory) (ha : a.toNat < 0xFFFF) :
    ∃ tl, operandBytes m a = m.read (a.toNat + 1) :: tl := by
  unfold operandBytes
  split
  · exact ⟨_, rfl⟩
  · rw [if_pos (by omega)]; exact ⟨_, rfl⟩

/-- A step whose decode answers an instruction answers a next state (60_exceptions.md R285). -/
theorem safeStep_of_ok {s : State} (h : ∃ i, decodeAt s.cpu.pc s.mem = .ok i) : SafeStep s :=
  let ⟨_, hi⟩ := h
  ⟨_, step_of_ok hi⟩

section
variable {s : State}

/-- 60_exceptions.md R281: no entry at the byte under PC. -/
theorem step_of_no_row (hop : s.memRead s.cpu.pc ≠ prefixByte)
    (h : (lookupTable unprefixedTable (s.memRead s.cpu.pc)).isNone = true) :
    step s = .fault (.decodeError .unknownOpcode s.cpu.pc (s.memRead s.cpu.pc)) := by
  have hd : decodeAt s.cpu.pc s.mem = .unknownOpcode (s.memRead s.cpu.pc) := (decodeBytes_eq_unknownOpcode_iff hop).2 h
  rw [step_eq_fault_iff, hd, decodeFault?]

/-- 60_exceptions.md R282: the prefix under PC, and no entry at the byte after it. -/
theorem step_of_no_prefixed_row (hop : s.memRead s.cpu.pc = prefixByte) (ha : s.cpu.pc.toNat < 0xFFFF)
    (h : (lookupTable prefixedTable (s.mem.read (s.cpu.pc.toNat + 1))).isNone = true) :
    step s = .fault (.decodeError .unknownPrefixedOpcode s.cpu.pc (s.mem.read (s.cpu.pc.toNat + 1))) := by
  obtain ⟨tl, htl⟩ := operandBytes_eq_cons s.mem ha
  have hd : decodeAt s.cpu.pc s.mem = .unknownPrefixedOpcode (s.mem.read (s.cpu.pc.toNat + 1)) := by
    rw [decodeAt, htl]
    exact (congrArg (decodeBytes · _) hop).trans ((decodeBytes_prefix_eq_unknown_iff _ tl).2 h)
  rw [step_eq_fault_iff, hd, decodeFault?]

/-- 60_exceptions.md R283: the prefix at 0xFFFF. -/
theorem step_of_prefix_at_end (hop : s.memRead s.cpu.pc = prefixByte) (ha : s.cpu.pc.toNat = 0xFFFF) :
    step s = .fault (.decodeError .outOfRange s.cpu.pc (s.memRead s.cpu.pc)) := by
  have hrest : operandBytes s.mem s.cpu.pc = [] := List.eq_nil_of_length_eq_zero (by rw [length_operandBytes]; omega)
  have hd : decodeAt s.cpu.pc s.mem = .outOfRange (s.memRead s.cpu.pc) := by
    rw [decodeAt, hrest, decodeBytes]
    exact if_pos hop
  rw [step_eq_fault_iff, hd, decodeFault?]

/-- 60_exceptions.md R283, R285: an admitted unprefixed byte stops the step exactly when its operand bytes pass 0xFFFF. -/
theorem step_of_row {row : Row} (hop : s.memRead s.cpu.pc ≠ prefixByte)
    (hrow : lookupTable unprefixedTable (s.memRead s.cpu.pc) = some row) :
    if row.operandCount ≤ (operandBytes s.mem s.cpu.pc).length then SafeStep s
    else step s = .fault (.decodeError .outOfRange s.cpu.pc (s.memRead s.cpu.pc)) := by
  have hd := decodeBytes_of_row (operandBytes s.mem s.cpu.pc) hop hrow
  split at hd
  · obtain ⟨i, hi, -⟩ := hd
    rw [if_pos ‹_›]
    exact safeStep_of_ok ⟨i, hi⟩
  · rw [if_neg ‹_›, step_eq_fault_iff, decodeAt]
    exact congrArg (decodeFault? _) hd

end

end Machine

end Sys2Proof

open Sys2Proof Sys2Proof.Machine

/-- Settles O36: the decode at an address answers an instruction exactly when it fits there and its encoding stands there. -/
theorem encodedInstructionDecodes : Obligations.EncodedInstructionDecodes :=
  fun _ _ _ hfit hat => decodeAt_eq_ok_iff.2 ⟨hfit, hat⟩

/-- Settles O38: each word begins with the encoding of its instruction. -/
theorem wordsOfTheSpecDecode : Obligations.WordsOfTheSpecDecode := by
  refine ⟨?_, ?_, ?_, ?_, ?_, ?_, ?_, ?_⟩
  all_goals rw [decodeBytes_eq_ok_iff]; decide

/-- Settles O39: a byte is unknown exactly when its table has no entry for it, and the tables are finite. -/
theorem admittedOpcodes : Obligations.AdmittedOpcodes :=
  ⟨fun op _ hop => (decodeBytes_eq_unknownOpcode_iff hop).trans (lookup_unprefixed_isNone_iff op hop),
    fun op tl => (decodeBytes_prefix_eq_unknown_iff op tl).trans (lookup_prefixed_isNone_iff op)⟩

/-- Settles O40: one lemma for each way a step ends; the operand bytes on offer decide between the last two. -/
theorem whenAStepFaults : Obligations.WhenAStepFaults := by
  intro s a op op2
  have ha := a.isLt
  have hlen : (operandBytes s.mem a).length = min 2 (0xFFFF - a.toNat) := length_operandBytes a s.mem
  refine ⟨step_of_prefix_at_end, fun hop hlt h => step_of_no_prefixed_row hop hlt (lookup_prefixed_isNone h),
    fun hop h => step_of_no_row hop (lookup_unprefixed_isNone h), fun hop i hi hsize => ?_, fun i hi hpre hsize => ?_⟩
  · obtain ⟨row, hrow, hcount⟩ := exists_row_of_head hop hi
    have hstep := step_of_row hop hrow
    rwa [if_neg (by change ¬ _ ≤ (operandBytes s.mem a).length; omega)] at hstep
  · by_cases hop : op = prefixByte
    · have henc : encode i = [op, op2] := by rw [hop]; exact hpre hop
      have hbytes : BytesAt s.mem a.toNat (encode i) := by
        rw [henc]
        intro k hk
        match k, hk with
        | 0, _ => rfl
        | 1, _ => rfl
      exact safeStep_of_ok ⟨i, decodeAt_eq_ok_iff.2 ⟨by rw [Instr.fitsAt]; exact decide_eq_true hsize, hbytes⟩⟩
    · obtain ⟨row, hrow, hcount⟩ := exists_row_of_head hop hi
      have hle := length_encode_le_three i
      rw [length_encode] at hle
      have hstep := step_of_row hop hrow
      rwa [if_pos (by change _ ≤ (operandBytes s.mem a).length; omega)] at hstep
end

section
/-! PROOFS. The step and the interrupt-enable state (10_state.md R30; 46_misc.md R242, R243; 60_exceptions.md R288): an instruction runs
the same whatever `ime` and `eiDelay` are, and only EI, DI and RETI move them. -/

namespace Sys2Proof.Machine

/-! ### The interrupt-enable state replaced -/

/-- The state with another interrupt-enable state (10_state.md R30). -/
def State.withInterrupts (s : State) (ime : Bool) (d : Fin 3) : State := (s.setIme ime).setEiDelay d

theorem sameButInterrupts_iff {s t : State} : SameButInterrupts s t ↔ t = s.withInterrupts t.cpu.ime t.cpu.eiDelay := Iff.rfl

section
variable (s : State) (i : Bool) (d : Fin 3)

/-! Nothing that an operation reads is replaced. -/

@[simp] theorem State.withInterrupts_cpu : (s.withInterrupts i d).cpu = { s.cpu with ime := i, eiDelay := d } := rfl
@[simp] theorem State.withInterrupts_mem : (s.withInterrupts i d).mem = s.mem := rfl
@[simp] theorem State.withInterrupts_ppu : (s.withInterrupts i d).ppu = s.ppu := rfl
@[simp] theorem State.withInterrupts_apu : (s.withInterrupts i d).apu = s.apu := rfl
@[simp] theorem State.withInterrupts_cfg : (s.withInterrupts i d).cfg = s.cfg := rfl
@[simp] theorem State.withInterrupts_cycles : (s.withInterrupts i d).cycles = s.cycles := rfl
@[simp] theorem State.withInterrupts_memRead (b : Word) : (s.withInterrupts i d).memRead b = s.memRead b := rfl
@[simp] theorem State.withInterrupts_reg (r : Reg) : (s.withInterrupts i d).reg r = s.reg r := by cases r <;> rfl
@[simp] theorem State.withInterrupts_pair (p : Pair) : (s.withInterrupts i d).pair p = s.pair p := by cases p <;> rfl
@[simp] theorem State.withInterrupts_stackPair (q : StackPair) : (s.withInterrupts i d).stackPair q = s.stackPair q := by
  cases q <;> rfl
@[simp] theorem State.withInterrupts_indPair (p : IndPair) : (s.withInterrupts i d).indPair p = s.indPair p := by cases p <;> rfl

@[simp] theorem State.withInterrupts_hl : (s.withInterrupts i d).hl = s.hl := rfl
@[simp] theorem State.withInterrupts_atHl : (s.withInterrupts i d).atHl = s.atHl := rfl
@[simp] theorem State.withInterrupts_stackTop : (s.withInterrupts i d).stackTop = s.stackTop := rfl
@[simp] theorem State.withInterrupts_highReg : (s.withInterrupts i d).highReg = s.highReg := rfl
@[simp] theorem State.withInterrupts_cond (cc : Cond) : (s.withInterrupts i d).cond cc = s.cond cc := rfl
@[simp] theorem State.withInterrupts_relative (e : Byte) : (s.withInterrupts i d).relative e = s.relative e := rfl

/-! An operation of a meaning acts alike on the rest. -/

@[simp] theorem State.withInterrupts_setReg (r : Reg) (v : Byte) :
    (s.withInterrupts i d).setReg r v = (s.setReg r v).withInterrupts i d := by cases r <;> rfl
@[simp] theorem State.withInterrupts_setFlags (f : Flags) :
    (s.withInterrupts i d).setFlags f = (s.setFlags f).withInterrupts i d := rfl
@[simp] theorem State.withInterrupts_setPc (v : Word) : (s.withInterrupts i d).setPc v = (s.setPc v).withInterrupts i d := rfl
@[simp] theorem State.withInterrupts_setSp (v : Word) : (s.withInterrupts i d).setSp v = (s.setSp v).withInterrupts i d := rfl
@[simp] theorem State.withInterrupts_setPair (p : Pair) (w : Word) :
    (s.withInterrupts i d).setPair p w = (s.setPair p w).withInterrupts i d := by cases p <;> rfl
@[simp] theorem State.withInterrupts_setStackPair (q : StackPair) (w : Word) :
    (s.withInterrupts i d).setStackPair q w = (s.setStackPair q w).withInterrupts i d := by cases q <;> rfl
@[simp] theorem State.withInterrupts_report (k : CycleKey) :
    (s.withInterrupts i d).report k = (s.report k).withInterrupts i d := rfl
@[simp] theorem State.withInterrupts_aluWith (op : Alu) (v : Byte) :
    (s.withInterrupts i d).aluWith op v = (s.aluWith op v).withInterrupts i d := by cases op <;> rfl
@[simp] theorem State.withInterrupts_plainWrite (a : Word) (v : Byte) :
    (s.withInterrupts i d).plainWrite a v = (s.plainWrite a v).withInterrupts i d := rfl

theorem State.withInterrupts_dmaBytes (v : Byte) (n : Nat) :
    (s.withInterrupts i d).dmaBytes v n = (s.dmaBytes v n).withInterrupts i d := by
  induction n with
  | zero => rfl
  | succ n ih => rw [State.dmaBytes, ih]; rfl

@[simp] theorem State.withInterrupts_memWrite (a : Word) (v : Byte) :
    (s.withInterrupts i d).memWrite a v = (s.memWrite a v).withInterrupts i d := by
  simp only [State.memWrite, State.withInterrupts_plainWrite, State.observe, State.dmaCopy, State.withInterrupts_dmaBytes,
    State.withInterrupts_cfg]
  split_ifs <;> rfl

@[simp] theorem State.withInterrupts_push16 (w : Word) :
    (s.withInterrupts i d).push16 w = (s.push16 w).withInterrupts i d := by
  simp only [State.push16_eq, State.withInterrupts_setSp, State.withInterrupts_cpu, State.withInterrupts_memWrite]

end

/-! ### The instructions -/

/-- What an instruction makes of `ime` (44_control.md R219; 46_misc.md R243). -/
def Form.imeAfter : Form → Bool → Bool
  | .di, _ => false
  | .reti, _ => true
  | _, ime => ime

/-- What an instruction makes of `eiDelay` (46_misc.md R242, R243). -/
def Form.eiDelayAfter : Form → Fin 3 → Fin 3
  | .di, _ => 0
  | .ei, _ => 2
  | _, d => d

/-- 60_exceptions.md R288: an instruction leaves the same state whatever the interrupt-enable state is, but for that state itself. -/
theorem Form.run_withInterrupts (f : Form) (s : State) (i : Bool) (d : Fin 3) :
    Form.run f (s.withInterrupts i d) = (Form.run f s).withInterrupts (Form.imeAfter f i) (Form.eiDelayAfter f d) := by
  cases f with
  | jrCond cc e => cases h : s.cond cc <;> simp [Form.run, jrCond, h, Form.imeAfter, Form.eiDelayAfter]
  | jpCond cc w => cases h : s.cond cc <;> simp [Form.run, jpCond, h, Form.imeAfter, Form.eiDelayAfter]
  | callCond cc w => cases h : s.cond cc <;> simp [Form.run, callCond, h, Form.imeAfter, Form.eiDelayAfter]
  | retCond cc => cases h : s.cond cc <;> simp [Form.run, retCond, State.dropTop, h, Form.imeAfter, Form.eiDelayAfter]
  | pop q => simp [Form.run, pop, State.dropTop, Form.imeAfter, Form.eiDelayAfter]
  | ei => rfl
  | di => rfl
  | reti => rfl
  | _ => simp [Form.run, nop, ldRegReg, ldRegInd, ldIndReg, ldRegImm, ldIndImm, ldPairIndA, ldAPairInd, ldIndIncA, ldIndDecA,
      ldAIndInc, ldAIndDec, ldhConstA, ldhAConst, ldHighRegA, ldAHighReg, ldAbsA, ldAAbs, ldPairImm, ldAbsSp, ldSpHl, ldHlSpDisp,
      aluReg, aluInd, aluImm, addHl, incReg, incInd, decReg, decInd, incPair, decPair, bitReg, bitInd, rlReg, rla, jr, jp, jpHl, call,
      ret, push, addSp, cpl, scf, swapReg, swapInd, State.storeHl, State.incHl,
      State.decHl, State.dropTop, Form.imeAfter, Form.eiDelayAfter]

theorem Form.eiDelayAfter_of_ne {f : Form} (hdi : f ≠ .di) (hei : f ≠ .ei) (d : Fin 3) : Form.eiDelayAfter f d = d := by
  cases f with
  | di => exact absurd rfl hdi
  | ei => exact absurd rfl hei
  | _ => rfl

/-- 50_cpu_driver.md R251: the EI delay reads the interrupt-enable state and writes nothing else. -/
theorem State.applyEiDelay_withInterrupts (s : State) (i : Bool) (d : Fin 3) :
    (s.withInterrupts i d).applyEiDelay = s.withInterrupts (i || decide (d = 1)) (if d = 2 then 1 else 0) := by
  rw [State.applyEiDelay_eq]; rfl

theorem State.applyEiDelay_eq_withInterrupts (s : State) :
    s.applyEiDelay = s.withInterrupts (s.cpu.ime || decide (s.cpu.eiDelay = 1)) (if s.cpu.eiDelay = 2 then 1 else 0) :=
  s.applyEiDelay_withInterrupts s.cpu.ime s.cpu.eiDelay

/-- A step's part before the devices, with another interrupt-enable state at its start. -/
theorem State.afterInstr_withInterrupts (s : State) (j : Instr) (i : Bool) (d : Fin 3) :
    (s.withInterrupts i d).afterInstr j =
      (Form.run j.form (s.advancePc j.size)).withInterrupts
        (Form.imeAfter j.form i || decide (Form.eiDelayAfter j.form d = 1)) (if Form.eiDelayAfter j.form d = 2 then 1 else 0) := by
  have hpc : (s.withInterrupts i d).advancePc j.size = (s.advancePc j.size).withInterrupts i d := rfl
  rw [State.afterInstr, hpc, Form.run_withInterrupts, State.applyEiDelay_withInterrupts]

/-- What a step makes of `ime`: the instruction first, then the EI delay (50_cpu_driver.md R250, R251). -/
theorem State.afterInstr_ime (s : State) (j : Instr) : (s.afterInstr j).cpu.ime =
    (Form.imeAfter j.form s.cpu.ime || decide (Form.eiDelayAfter j.form s.cpu.eiDelay = 1)) :=
  congrArg (·.cpu.ime) (s.afterInstr_withInterrupts j s.cpu.ime s.cpu.eiDelay)

/-- What a step makes of `eiDelay`. -/
theorem State.afterInstr_eiDelay (s : State) (j : Instr) : (s.afterInstr j).cpu.eiDelay =
    if Form.eiDelayAfter j.form s.cpu.eiDelay = 2 then 1 else 0 :=
  congrArg (·.cpu.eiDelay) (s.afterInstr_withInterrupts j s.cpu.ime s.cpu.eiDelay)

/-! ### The devices -/

section
variable (s : State) (i : Bool) (d : Fin 3)

theorem State.withInterrupts_nextLine : (s.withInterrupts i d).nextLine = s.nextLine.withInterrupts i d := by
  unfold State.nextLine
  dsimp only
  rw [apply_ite (State.withInterrupts · i d)]
  rfl

theorem State.withInterrupts_nextLines (k : Nat) : (s.withInterrupts i d).nextLines k = (s.nextLines k).withInterrupts i d := by
  induction k generalizing s with
  | zero => rfl
  | succ k ih => rw [State.nextLines, State.withInterrupts_nextLine, ih]; rfl

theorem State.withInterrupts_ppuTick (n : Nat) : (s.withInterrupts i d).ppuTick n = (s.ppuTick n).withInterrupts i d := by
  unfold State.ppuTick
  dsimp only
  rw [apply_ite (State.withInterrupts · i d)]
  exact if_congr Iff.rfl (State.withInterrupts_nextLines (s.setAcc (Fin.ofNat 456 (s.ppu.acc.val + n))) i d _) rfl

theorem State.withInterrupts_trigger (c : ChannelId) : (s.withInterrupts i d).trigger c = (s.trigger c).withInterrupts i d := by
  unfold State.trigger
  rw [apply_ite (State.withInterrupts · i d)]
  cases c <;> rfl

/-- No device reads the interrupt-enable state. -/
theorem State.withInterrupts_tickDevices : (s.withInterrupts i d).tickDevices = s.tickDevices.withInterrupts i d := by
  simp only [State.tickDevices, State.apuTick, State.withInterrupts_cycles, State.withInterrupts_ppuTick, State.withInterrupts_trigger]
  rfl

end

/-! ### The step -/

/-- 50_cpu_driver.md R250 to R252: a step where the bytes of an instruction stand at PC and fit there. -/
theorem step_of_bytesAt {i : Instr} {s : State} (hfit : i.fitsAt s.cpu.pc = true) (hat : BytesAt s.mem s.cpu.pc.toNat (encode i)) :
    step s = .next (s.afterInstr i).tickDevices :=
  step_of_ok (decodeAt_eq_ok_iff.2 ⟨hfit, hat⟩)

end Sys2Proof.Machine

open Sys2Proof Sys2Proof.Machine

/-- Settles O41: the bytes at PC decode to the instruction, which answers a next state. -/
theorem stepRunsTheDecodedInstruction : Obligations.StepRunsTheDecodedInstruction := by
  intro i s hfit hat
  refine ⟨_, (Form.run i.form (s.advancePc i.size)).applyEiDelay, exec_eq_run i _, rfl, ?_⟩
  rw [step_of_bytesAt hfit hat]
  simp only [State.tickDevices, State.afterInstr, State.applyEiDelay_cycles]
  rfl

/-- Settles O44: a step of EI leaves the delay at 1, and the step after it applies that delay to what its own instruction leaves. -/
theorem eiTakesEffectOneStepLater : Obligations.EiTakesEffectOneStepLater := by
  intro s t hei hst
  rw [step_of_ok hei] at hst
  obtain rfl := Host.Outcome.next.inj hst
  have hime : (s.afterInstr .ei).tickDevices.cpu.ime = s.cpu.ime := by
    rw [State.tickDevices_cpu, State.afterInstr_ime]
    exact Bool.or_false _
  have hdelay : (s.afterInstr .ei).tickDevices.cpu.eiDelay = 1 := by
    rw [State.tickDevices_cpu, State.afterInstr_eiDelay]
    rfl
  refine ⟨hime, hdelay, fun i u hi hu => ?_⟩
  rw [step_of_ok hi] at hu
  obtain rfl := Host.Outcome.next.inj hu
  simp only [State.tickDevices_cpu (State.afterInstr _ i), State.afterInstr_ime _ i, State.afterInstr_eiDelay _ i, hime, hdelay]
  refine ⟨?_, ?_, fun hdi hei => ?_⟩
  · rintro rfl
    exact ⟨rfl, rfl⟩
  · rintro rfl
    exact ⟨Bool.or_false _, rfl⟩
  · have hne {f : Form} (h : i ≠ f.instr) : i.form ≠ f := fun e => h (by rw [← e, Form.instr_form])
    rw [Form.eiDelayAfter_of_ne (hne hdi) (hne hei)]
    exact ⟨Bool.or_true _, rfl⟩

/-- Settles O45: the decode, the instruction, the EI delay and the devices each commute with a replacement of the interrupt-enable
state. -/
theorem interruptStateIsNeverObserved : Obligations.InterruptStateIsNeverObserved := by
  intro s t h
  rw [sameButInterrupts_iff] at h
  generalize t.cpu.ime = i, t.cpu.eiDelay = d at h
  subst h
  rcases step_cases s with ⟨j, hd, hs⟩ | ⟨v, hd, hs⟩ | ⟨v, hd, hs⟩ | ⟨v, hd, hs⟩
  · rw [hs, step_of_ok (s := s.withInterrupts i d) hd, State.afterInstr_withInterrupts, State.afterInstr,
      State.applyEiDelay_eq_withInterrupts, State.withInterrupts_tickDevices, State.withInterrupts_tickDevices]
    rfl
  all_goals
    have hf := (step_eq_fault_congr (s := s) (u := s.withInterrupts i d) rfl rfl _).2 hs
    rw [hs, hf]
    rfl
end

section
/-! PROOFS. The APU (62_apu.md): a timer by the equation its loop keeps, a channel by the events of its two timers, and the tick. -/

namespace Sys2Proof.Machine

/-! ### The timers -/

/-- What the loop of 62_apu.md R333 leaves when it has taken `n` cycles off the timer `t`: a timer `x` above 0 after `e` events, and no
event beyond the first that reached it. -/
structure CountsDown (t reload n x e : Nat) : Prop where
  pos : 1 ≤ x
  balance : x + n = t + e * reload
  least : e = 0 ∨ x ≤ reload

theorem countDown_countsDown (t n : Nat) {reload : Nat} (hr : 1 ≤ reload) :
    CountsDown t reload n (countDown t reload n).1 (countDown t reload n).2 := by
  rcases Nat.lt_or_ge n t with h | h
  · rw [countDown_of_lt h]
    exact ⟨by dsimp only; omega, by dsimp only; omega, .inl rfl⟩
  · have hmod := Nat.mod_lt (n - t) hr
    have hdiv := Nat.div_add_mod (n - t) reload
    rw [Nat.mul_comm] at hdiv
    rw [countDown_of_le h]
    exact ⟨by dsimp only; omega, by dsimp only; rw [Nat.succ_mul]; omega, .inr (Nat.sub_le _ _)⟩

/-- One event fewer would leave the timer at 0 or below, so the equation has one solution. -/
theorem CountsDown.events_le {t reload n x e x' e' : Nat} (h : CountsDown t reload n x e) (h' : CountsDown t reload n x' e') :
    e' ≤ e := by
  by_contra hlt
  have hmul : (e + 1) * reload ≤ e' * reload := Nat.mul_le_mul_right _ (by omega)
  rw [Nat.succ_mul] at hmul
  have := h.pos
  have := h.balance
  have := h'.balance
  have := h'.least
  omega

theorem countDown_eq_iff {t reload n x e : Nat} (hr : 1 ≤ reload) :
    countDown t reload n = (x, e) ↔ CountsDown t reload n x e := by
  have hc := countDown_countsDown t n hr
  refine ⟨fun h => by rw [h] at hc; exact hc, fun h => ?_⟩
  have he : (countDown t reload n).2 = e := le_antisymm (h.events_le hc) (hc.events_le h)
  have hx : (countDown t reload n).1 = x := by
    have hbal := hc.balance
    rw [he] at hbal
    exact Nat.add_right_cancel (hbal.trans h.balance.symm)
  exact Prod.ext hx he

/-- The loop may be broken off between two ticks and taken up again. -/
theorem CountsDown.add {t reload m n x e y d : Nat} (h : CountsDown t reload m x e) (h' : CountsDown x reload n y d) :
    CountsDown t reload (m + n) y (e + d) := by
  have hx := h.balance
  have hy := h'.balance
  refine ⟨h'.pos, by rw [Nat.add_mul]; omega, ?_⟩
  rcases h'.least with rfl | hle
  · exact h.least.imp id fun hle => by omega
  · exact .inr hle

/-- A timer at its reload has its first event after exactly one reload. -/
theorem countDown_reload (r : Nat) : countDown r r r = (r, 1) := by simp [countDown]

/-! ### The channels -/

theorem Channel.advance_of_disabled {ch : Channel} (h : ch.enabled = false) (n : Nat) : ch.advance n = ch := by
  simp [Channel.advance, Channel.stepDuty, Channel.stepVolume, h]

theorem Channel.decays_volume (ch : Channel) (k : Nat) : (ch.decays k).volume.val = ch.volume.val - k := by
  induction k with
  | zero => rfl
  | succ k ih => rw [Channel.decays, Channel.decay_volume, ih]; omega

/-- 62_apu.md R335: the volume steps leave a channel enabled while the volume is not used up. -/
theorem Channel.decays_enabled (ch : Channel) (k : Nat) :
    (ch.decays k).enabled = (ch.enabled && (decide (k = 0) || decide (k < ch.volume.val))) := by
  induction k with
  | zero => simp [Channel.decays]
  | succ k ih =>
    have hv := ch.decays_volume k
    simp only [Channel.decays, Channel.decay, ih, hv]
    split
    · rw [decide_eq_false (by omega), decide_eq_false (show ¬ k + 1 < ch.volume.val by omega)]; simp
    · rw [decide_eq_true (show k < ch.volume.val by omega), decide_eq_true (show k + 1 < ch.volume.val by omega)]; simp

/-- The channel timer's part of a tick: nothing of the volume or the period timer (62_apu.md R334). -/
theorem Channel.stepDuty_of_enabled {ch : Channel} (h : ch.enabled = true) (n : Nat) :
    ch.stepDuty n = { ch with
      chanTimer := (countDown ch.chanTimer ch.chanReload n).1
      dutyPos := Fin.ofNat 8 (ch.dutyPos.val + (countDown ch.chanTimer ch.chanReload n).2) } := by
  simp [Channel.stepDuty, h]

theorem Channel.stepDuty_keeps (ch : Channel) (n : Nat) :
    (ch.stepDuty n).enabled = ch.enabled ∧ (ch.stepDuty n).volume = ch.volume ∧ (ch.stepDuty n).periodTimer = ch.periodTimer ∧
    (ch.stepDuty n).periodReload = ch.periodReload := by
  unfold Channel.stepDuty
  split <;> exact ⟨rfl, rfl, rfl, rfl⟩

/-- The period timer's part of a tick: nothing of the duty position or the channel timer (62_apu.md R335). -/
theorem Channel.stepVolume_keeps (ch : Channel) (n : Nat) :
    (ch.stepVolume n).duty = ch.duty ∧ (ch.stepVolume n).dutyPos = ch.dutyPos ∧ (ch.stepVolume n).chanTimer = ch.chanTimer ∧
    (ch.stepVolume n).chanReload = ch.chanReload ∧ (ch.stepVolume n).periodReload = ch.periodReload := by
  unfold Channel.stepVolume
  split
  · obtain ⟨hd, hp, ht, hr, -, hpr⟩ :=
      Channel.decays_keeps { ch with periodTimer := (countDown ch.periodTimer ch.periodReload n).1 }
        (countDown ch.periodTimer ch.periodReload n).2
    exact ⟨hd, hp, ht, hr, hpr⟩
  · exact ⟨rfl, rfl, rfl, rfl, rfl⟩

theorem Channel.stepVolume_of_no_period {ch : Channel} (h : ch.periodReload = 0) (n : Nat) : ch.stepVolume n = ch := by
  simp [Channel.stepVolume, h]

theorem Channel.stepVolume_of_period {ch : Channel} (h : ch.enabled = true) (hp : 0 < ch.periodReload) (n : Nat) :
    ch.stepVolume n = Channel.decays { ch with periodTimer := (countDown ch.periodTimer ch.periodReload n).1 }
      (countDown ch.periodTimer ch.periodReload n).2 := by
  simp [Channel.stepVolume, h, hp]

section
variable {ch : Channel} (h : ch.enabled = true)
include h

/-- 62_apu.md R334: what a tick makes of an enabled channel's duty position and channel timer, and what it keeps. -/
theorem Channel.advance_duty (n : Nat) :
    (ch.advance n).chanTimer = (countDown ch.chanTimer ch.chanReload n).1 ∧
    (ch.advance n).dutyPos = Fin.ofNat 8 (ch.dutyPos.val + (countDown ch.chanTimer ch.chanReload n).2) ∧
    (ch.advance n).duty = ch.duty ∧ (ch.advance n).chanReload = ch.chanReload ∧ (ch.advance n).periodReload = ch.periodReload := by
  obtain ⟨hd, hp, ht, hr, hpr⟩ := (ch.stepDuty n).stepVolume_keeps n
  rw [Channel.stepDuty_of_enabled h] at hd hp ht hr hpr
  rw [Channel.advance, Channel.stepDuty_of_enabled h]
  exact ⟨ht, hp, hd, hr, hpr⟩

/-- A channel without a period keeps its volume. -/
theorem Channel.advance_of_no_period (hp : ch.periodReload = 0) (n : Nat) :
    (ch.advance n).periodTimer = ch.periodTimer ∧ (ch.advance n).volume = ch.volume ∧ (ch.advance n).enabled = true := by
  obtain ⟨he, hv, ht, hpr⟩ := ch.stepDuty_keeps n
  rw [Channel.advance, Channel.stepVolume_of_no_period (hpr.trans hp)]
  exact ⟨ht, hv, he.trans h⟩

/-- 62_apu.md R335: what a tick makes of the volume of an enabled channel with a period. -/
theorem Channel.advance_of_period (hp : 0 < ch.periodReload) (n : Nat) :
    (ch.advance n).periodTimer = (countDown ch.periodTimer ch.periodReload n).1 ∧
    (ch.advance n).volume.val = ch.volume.val - (countDown ch.periodTimer ch.periodReload n).2 ∧
    (ch.advance n).enabled = (decide ((countDown ch.periodTimer ch.periodReload n).2 = 0) ||
      decide ((countDown ch.periodTimer ch.periodReload n).2 < ch.volume.val)) := by
  obtain ⟨he, hv, ht, hpr⟩ := ch.stepDuty_keeps n
  rw [Channel.advance, Channel.stepVolume_of_period (he.trans h) (hpr ▸ hp), Channel.decays_volume, Channel.decays_enabled, ht, hpr]
  refine ⟨(Channel.decays_keeps _ _).2.2.2.2.1, congrArg (·.val - _) hv, ?_⟩
  dsimp only
  rw [he, h, hv, Bool.true_and]

end

/-! ### The tick -/

/-- 62_apu.md R332: a trigger bit is clear once it was looked at. -/
theorem State.trigger_bit_clear (s : State) (c : ChannelId) : ((s.trigger c).memRead c.nr4).getLsbD 7 = false := by
  rw [State.memRead_trigger, if_pos rfl]
  simp

theorem State.memRead_trigger_of_ne (s : State) (c : ChannelId) {b : Word} (h : b ≠ c.nr4) :
    (s.trigger c).memRead b = s.memRead b := by
  rw [State.memRead_trigger, if_neg h]

theorem State.memRead_apuTick (s : State) (n : Nat) (b : Word) :
    (s.apuTick n).memRead b = ((s.trigger .one).trigger .two).memRead b :=
  State.memRead_congr (s.apuTick_mem n) b

end Sys2Proof.Machine

open Sys2Proof Sys2Proof.Machine

/-- Settles O53: the timer and the events balance the cycles, in the naturals. -/
theorem countDownIsTheLoop : Obligations.CountDownIsTheLoop := by
  intro t reload n hr r
  obtain ⟨hpos, hbal, hleast⟩ := countDown_countsDown t n hr
  refine ⟨hpos, ?_, hleast⟩
  have : ((r.1 : Nat) : Int) + n = t + r.2 * reload := by exact_mod_cast hbal
  omega

/-- Settles O54: the equation of the whole is the sum of the two. -/
theorem countDownAddsUp : Obligations.CountDownAddsUp := by
  intro t reload m n hr first second
  exact (countDown_eq_iff hr).2 ((countDown_countsDown t m hr).add (countDown_countsDown first.1 n hr))

/-- Settles O55: the fields of `triggered`, and the frame of a trigger. -/
theorem triggerStartsTheChannel : Obligations.TriggerStartsTheChannel := by
  refine ⟨⟨rfl, rfl, rfl, rfl, rfl, rfl, rfl, rfl⟩, fun c s => ?_⟩
  obtain ⟨hcpu, hppu, hsamples, hcfg, -, htimer⟩ := s.trigger_frame c
  refine ⟨fun hset => ?_, fun hclear => if_neg (by rw [hclear]; decide), fun d hd => s.channel_trigger_of_ne hd,
    fun b hb => s.memRead_trigger_of_ne c hb, hcpu, hppu, htimer, hsamples, hcfg⟩
  have hmem : (s.trigger c).memRead c.nr4 = s.memRead c.nr4 &&& 0x7F := by rw [State.memRead_trigger, if_pos rfl]
  have hn1 := (s.memRead c.nr1).isLt
  have hn2 := (s.memRead c.nr2).isLt
  rw [State.channel_trigger, if_pos hset, hmem]
  refine ⟨rfl, Nat.mod_eq_of_lt (by omega), Nat.mod_eq_of_lt (by omega), rfl, rfl, rfl, rfl, rfl, ?_⟩
  rw [BitVec.toNat_and]
  exact Nat.and_two_pow_sub_one_eq_mod _ 7

/-- Settles O56: a disabled channel stays as it is; an enabled one has its duty's part and its volume's part. -/
theorem channelAdvances : Obligations.ChannelAdvances := by
  intro ch n t d p
  refine ⟨fun h => Channel.advance_of_disabled h n, fun h => ?_⟩
  obtain ⟨htimer, hpos, hduty, hreload, hperiod⟩ := Channel.advance_duty h n
  exact ⟨htimer, congrArg Fin.val hpos, hduty, hreload, hperiod, fun hp => Channel.advance_of_no_period h hp n,
    fun hp => Channel.advance_of_period h hp n⟩

/-- Settles O57: the parts of the tick in order; the triggers keep the sample timer and the samples. -/
theorem samplesOfATick : Obligations.SamplesOfATick := by
  intro s n t triggered r out
  have htimer : triggered.apu.sampleTimer = s.apu.sampleTimer := by simp [triggered]
  have hcfg : triggered.cfg = s.cfg := by simp [triggered]
  have hr : countDown triggered.apu.sampleTimer triggered.cfg.samplePeriod n = r := by rw [htimer, hcfg]
  refine ⟨rfl, rfl, congrArg Prod.fst hr, ?_, State.apuTick_mem s n, s.apuTick_cpu n, s.apuTick_ppu n, s.apuTick_cfg n⟩
  have hsamples : triggered.samples = s.samples := by simp [triggered]
  calc t.samples
      = triggered.samples ++ List.replicate (countDown triggered.apu.sampleTimer triggered.cfg.samplePeriod n).2
          (triggered.advanceChannels n).apu.mix := rfl
    _ = _ := by rw [hr, hsamples]; rfl

/-- Settles O58: both timers start at their reloads, so the first event comes after exactly one reload. -/
theorem oneFullPeriod : Obligations.OneFullPeriod := by
  intro c s _ ch
  have hduty (n : Nat) : (ch.advance n).dutyPos = Fin.ofNat 8 (0 + (countDown ch.chanReload ch.chanReload n).2) :=
    (Channel.advance_duty (ch := ch) rfl n).2.1
  refine ⟨by rw [hduty, countDown_reload]; rfl, fun n hn => by rw [hduty, countDown_of_lt hn]; rfl, fun hp _ => ?_⟩
  have hvolume (n : Nat) : (ch.advance n).volume.val = ch.volume.val - (countDown ch.periodReload ch.periodReload n).2 :=
    (Channel.advance_of_period (ch := ch) rfl hp n).2.1
  exact ⟨by rw [hvolume, countDown_reload], fun n hn => Fin.ext (by rw [hvolume, countDown_of_lt hn]; rfl)⟩

end

section
/-! PROOFS. The PPU (61_ppu.md): a pixel of the background by its two bitplane bits, LY and the framebuffer after a tick, and the sum of two
ticks. -/

namespace Sys2Proof.Machine

/-! ### A pixel of the background -/

/-- A bit of a byte as a number. -/
theorem getLsbD_eq_decide (v : Byte) (k : Nat) : v.getLsbD k = decide (v.toNat / 2 ^ k % 2 = 1) := by
  rw [BitVec.getLsbD, Nat.testBit_eq_decide_div_mod_eq]

/-- The colour index that two bitplane bytes give at a bit (61_ppu.md R307). -/
def planeIndex (lowBits highBits bit : Nat) : Fin 4 := Fin.ofNat 4 (lowBits / 2 ^ bit % 2 + 2 * (highBits / 2 ^ bit % 2))

/-- The index of the background plane at a column and row, by the bytes of its tile (61_ppu.md R307). -/
theorem bgIndex_eq_planeIndex (m : Memory) (col row : Nat) :
    bgIndex m col row = planeIndex (m.read (0x8000 + 16 * (tileNumber m col row).toNat + 2 * (row % 8))).toNat
      (m.read (0x8000 + 16 * (tileNumber m col row).toNat + 2 * (row % 8) + 1)).toNat (7 - col % 8) := by
  unfold bgIndex planeIndex
  dsimp only
  generalize m.read (0x8000 + 16 * (tileNumber m col row).toNat + 2 * (row % 8) + 1) = high
  generalize m.read (0x8000 + 16 * (tileNumber m col row).toNat + 2 * (row % 8)) = low
  rw [getLsbD_eq_decide, getLsbD_eq_decide]
  rcases Nat.mod_two_eq_zero_or_one (high.toNat / 2 ^ (7 - col % 8)) with hh | hh <;>
    rcases Nat.mod_two_eq_zero_or_one (low.toNat / 2 ^ (7 - col % 8)) with hl | hl <;> rw [hh, hl] <;> rfl

/-- The map and the tiles lie below the registers: a store to LY changes no pixel of the plane (61_ppu.md R301, R307). -/
theorem bgIndex_write_ly (m : Memory) (v : Byte) {col row : Nat} (hcol : col < 256) (hrow : row < 256) :
    bgIndex (m.write addrLy.toNat v) col row = bgIndex m col row := by
  have hly : addrLy.toNat = 0xFF44 := rfl
  have htile : tileNumber (m.write addrLy.toNat v) col row = tileNumber m col row :=
    Memory.read_write_of_ne _ _ _ _ (by omega)
  have hlt := (tileNumber m col row).isLt
  rw [bgIndex_eq_planeIndex, bgIndex_eq_planeIndex, htile, Memory.read_write_of_ne _ _ _ _ (by omega),
    Memory.read_write_of_ne _ _ _ _ (by omega)]

theorem BgWrap.modulus_bounds (b : BgWrap) : 0 < b.modulus ∧ b.modulus ≤ 256 := by cases b <;> decide

/-- A pixel of the screen is the same before and after LY moves on (61_ppu.md R308). -/
theorem State.pixel_plainWrite_ly (s : State) (v : Byte) (x y : Nat) : (s.plainWrite addrLy v).pixel x y = s.pixel x y := by
  have hscx : (s.plainWrite addrLy v).memRead addrScx = s.memRead addrScx := by rw [State.memRead_plainWrite, if_neg (by decide)]
  have hscy : (s.plainWrite addrLy v).memRead addrScy = s.memRead addrScy := by rw [State.memRead_plainWrite, if_neg (by decide)]
  obtain ⟨hpos, hle⟩ := BgWrap.modulus_bounds s.cfg.bgWrap
  have hlt (k : Nat) : k % s.cfg.bgWrap.modulus < 256 := lt_of_lt_of_le (Nat.mod_lt _ hpos) hle
  simp only [State.pixel, hscx, hscy, State.plainWrite_cfg, State.plainWrite_ppu, State.plainWrite_mem,
    bgIndex_write_ly _ _ (hlt _) (hlt _)]

/-! ### The crossings of a tick -/

theorem State.nextLy_lt (s : State) : s.nextLy < 154 := Nat.mod_lt _ (by decide)

theorem State.memRead_nextLine_ly (s : State) : (s.nextLine.memRead addrLy).toNat = s.nextLy := by
  have := s.nextLy_lt
  rw [State.memRead_nextLine, if_pos rfl, BitVec.toNat_ofNat]
  omega

/-- 61_ppu.md R305: LY goes on by one for each crossing, modulo 154. -/
theorem State.memRead_nextLines_ly (s : State) (k : Nat) :
    ((s.nextLines k).memRead addrLy).toNat = if k = 0 then (s.memRead addrLy).toNat else ((s.memRead addrLy).toNat + k) % 154 := by
  induction k generalizing s with
  | zero => rfl
  | succ k ih =>
    rw [State.nextLines, ih, State.memRead_nextLine_ly, State.nextLy, if_neg (Nat.succ_ne_zero k)]
    split <;> omega

/-- A pixel after a crossing: the row before the new line is rendered, every other is kept (61_ppu.md R306). -/
theorem State.screen_nextLine (s : State) (x : Fin 160) (y : Fin 144) :
    s.nextLine.screen x y = if s.nextLy = y.val + 1 then s.pixel x y else s.screen x y := by
  have hy := y.isLt
  unfold State.screen
  rw [State.nextLine_fb]
  split
  · rw [State.renderLine_row]
    by_cases hline : s.nextLy = y.val + 1
    · rw [if_pos (by omega), if_pos hline, FbRow.get_ofFn, State.pixel_plainWrite_ly, hline, Nat.add_sub_cancel]
    · rw [if_neg (by omega), if_neg hline, State.plainWrite_ppu]
  · rw [if_neg (by omega)]

theorem State.nextLines_add (s : State) (j k : Nat) : s.nextLines (j + k) = (s.nextLines j).nextLines k := by
  induction j generalizing s with
  | zero => rw [Nat.zero_add]; rfl
  | succ j ih => rw [Nat.succ_add, State.nextLines, ih]; rfl

theorem State.setAcc_nextLine (s : State) (v : Fin 456) : (s.setAcc v).nextLine = s.nextLine.setAcc v := by
  unfold State.nextLine
  dsimp only
  rw [apply_ite (State.setAcc · v)]
  rfl

/-- A crossing reads nothing of the accumulator (61_ppu.md R305). -/
theorem State.setAcc_nextLines (s : State) (v : Fin 456) (k : Nat) : (s.setAcc v).nextLines k = (s.nextLines k).setAcc v := by
  induction k generalizing s with
  | zero => rfl
  | succ k ih => rw [State.nextLines, State.setAcc_nextLine, ih]; rfl

/-! ### The tick -/

/-- 61_ppu.md R304: the tick while the LCD is off. -/
theorem State.ppuTick_of_off {s : State} (h : (s.memRead addrLcdc).getLsbD 7 = false) (n : Nat) :
    s.ppuTick n = s.plainWrite addrLy 0 := by
  rw [State.ppuTick, h]; rfl

/-- 61_ppu.md R305: the tick while the LCD is on. -/
theorem State.ppuTick_of_on {s : State} (h : (s.memRead addrLcdc).getLsbD 7 = true) (n : Nat) :
    s.ppuTick n = (s.nextLines ((s.ppu.acc.val + n) / 456)).setAcc (Fin.ofNat 456 (s.ppu.acc.val + n)) := by
  rw [← State.setAcc_nextLines, State.ppuTick, h]; rfl

theorem State.memRead_ppuTick_lcdc (s : State) (n : Nat) : (s.ppuTick n).memRead addrLcdc = s.memRead addrLcdc :=
  s.memRead_ppuTick_of_ne n addrLcdc (by decide)

/-- Storing 0 twice lists nothing twice: the address stays unlisted. -/
theorem Memory.write_zero_write_zero (m : Memory) (a : Nat) : (m.write a 0).write a 0 = m.write a 0 := by
  have hzero (m : Memory) : m.write a 0 = m.erase a := if_pos rfl
  rw [hzero, hzero, Memory.erase, Memory.erase, List.filter_filter]
  simp only [Bool.and_self]

/-! ### The background plane as a list -/

/-- In a list of rows that are all `w` long, entry `j` of row `i` stands at `i * w + j` of the flat list. -/
theorem getElem?_flatten_of_length {α : Type} {w j : Nat} (hj : j < w) : ∀ {rows : List (List α)} (i : Nat),
    (∀ row ∈ rows, row.length = w) → rows.flatten[i * w + j]? = rows[i]?.bind (·[j]?)
  | [], _, _ => by simp
  | row :: rows, 0, h => by
    rw [List.flatten_cons, List.getElem?_append_left (by rw [h row List.mem_cons_self]; omega), Nat.zero_mul, Nat.zero_add]
    rfl
  | row :: rows, i + 1, h => by
    have hlen : row.length = w := h row List.mem_cons_self
    rw [List.flatten_cons, List.getElem?_append_right (by rw [hlen, Nat.succ_mul]; omega), hlen,
      show (i + 1) * w + j - w = i * w + j by rw [Nat.succ_mul]; omega,
      getElem?_flatten_of_length hj i fun r hr => h r (List.mem_cons_of_mem _ hr)]
    rfl

theorem State.length_background_row (s : State) : ∀ row ∈ s.background, row.length = 256 := by
  intro row hrow
  obtain ⟨r, -, rfl⟩ := List.mem_map.1 hrow
  rw [List.length_map, List.length_range]

/-- 61_ppu.md R310: the pixel of the background view at a column and row. -/
theorem State.getElem?_getVramData (s : State) (bx row : Fin 256) :
    s.getVramData[row.val * 256 + bx.val]? = some (s.ppu.palette.shade (bgIndex s.mem bx row)) := by
  rw [State.getVramData, getElem?_flatten_of_length bx.isLt row.val s.length_background_row]
  simp [State.background]

theorem State.length_getVramData (s : State) : s.getVramData.length = 65536 := by
  have hrow : s.background.map List.length = List.replicate 256 256 :=
    List.eq_replicate_iff.2 ⟨by rw [State.background, List.length_map, List.length_map, List.length_range], fun n hn => by
      obtain ⟨row, hmem, rfl⟩ := List.mem_map.1 hn
      exact s.length_background_row row hmem⟩
  rw [State.getVramData, List.length_flatten, hrow, List.sum_replicate]
  rfl

/-! ### The worked examples of 95_test_vectors.md -/

theorem planeIndex_zero (bit : Nat) : planeIndex 0 0 bit = 0 := by simp [planeIndex]

theorem planeIndex_ones {bit : Nat} (h : bit < 8) : planeIndex 0xFF 0xFF bit = 3 := by
  revert bit; decide

/-- Map entry 0 names tile 1, whose 16 bytes are 0xFF; every other byte is 0. -/
def OneBlackTile (m : Memory) : Prop :=
  ∀ a : Nat, m.read a = if a = 0x9800 then 1 else if 0x8010 ≤ a ∧ a ≤ 0x801F then 0xFF else 0

theorem OneBlackTile.bgIndex {m : Memory} (h : OneBlackTile m) {col row : Nat} (hcol : col < 256) (hrow : row < 256) :
    bgIndex m col row = if col < 8 ∧ row < 8 then 3 else 0 := by
  rw [bgIndex_eq_planeIndex]
  split
  · have htile : tileNumber m col row = 1 := (h _).trans (if_pos (by omega))
    have hbyte {a : Nat} (ha : 0x8010 ≤ a ∧ a ≤ 0x801F) : m.read a = 0xFF := by rw [h, if_neg (by omega), if_pos ha]
    rw [htile, show (1 : Byte).toNat = 1 from rfl, hbyte (by omega), hbyte (by omega)]
    exact planeIndex_ones (by omega)
  · have htile : tileNumber m col row = 0 := by rw [tileNumber, h, if_neg (by omega), if_neg (by omega)]
    have hbyte {a : Nat} (ha : a < 0x8010) : m.read a = 0 := by rw [h, if_neg (by omega), if_neg (by omega)]
    rw [htile, show (0 : Byte).toNat = 0 from rfl, hbyte (by omega), hbyte (by omega)]
    exact planeIndex_zero _

end Sys2Proof.Machine

open Sys2Proof Sys2Proof.Machine

/-- Settles O48: the frame of a tick, its one store while the LCD is off, and its crossings while it is on. -/
theorem ppuTickCountsLines : Obligations.PpuTickCountsLines := by
  intro s n
  refine ⟨⟨s.ppuTick_cpu n, s.ppuTick_apu n, s.ppuTick_samples n, s.ppuTick_cfg n, s.ppuTick_palette n,
    fun b hb => s.memRead_ppuTick_of_ne n b hb⟩, fun hoff => ?_, fun hon => ?_⟩
  · rw [State.ppuTick_of_off hoff]
    exact ⟨rfl, by rw [State.memRead_plainWrite]; rfl⟩
  · rw [State.ppuTick_of_on hon]
    refine ⟨rfl, (s.memRead_nextLines_ly _).trans (if_congr ?_ rfl rfl)⟩
    omega

/-- Settles O49: no crossing keeps the screen, one crossing renders the row before the new line. -/
theorem crossingRendersItsRow : Obligations.CrossingRendersItsRow := by
  intro s n hon hlt line wrap y x bx row tile lowBits highBits bit
  have hscreen : (s.ppuTick n).screen x y = (s.nextLines ((s.ppu.acc.val + n) / 456)).screen x y := by
    rw [State.ppuTick_of_on hon]; rfl
  have hpixel : s.pixel x y = s.ppu.palette.shade (planeIndex lowBits highBits bit) :=
    congrArg s.ppu.palette.shade (bgIndex_eq_planeIndex s.mem bx row)
  rw [hscreen]
  by_cases hcross : 456 ≤ s.ppu.acc.val + n
  · rw [show (s.ppu.acc.val + n) / 456 = 1 by omega]
    refine (s.screen_nextLine x y).trans ?_
    rw [hpixel]
    exact if_congr (by rw [and_iff_right hcross]; rfl) rfl rfl
  · rw [show (s.ppu.acc.val + n) / 456 = 0 by omega, if_neg (by omega)]
    rfl

/-- Settles O50: the crossings of two ticks are those of their sum, since the first tick leaves the remainder; and while the LCD is off a
second store of 0 to LY changes nothing. -/
theorem ppuTicksAddUp : Obligations.PpuTicksAddUp := by
  intro s m n
  cases hlcd : (s.memRead addrLcdc).getLsbD 7 with
  | false =>
    rw [State.ppuTick_of_off (s := s.ppuTick m) (by rw [State.memRead_ppuTick_lcdc, hlcd]), State.ppuTick_of_off hlcd,
      State.ppuTick_of_off hlcd]
    exact congrArg s.setMem (Memory.write_zero_write_zero s.mem _)
  | true =>
    rw [State.ppuTick_of_on (s := s.ppuTick m) (by rw [State.memRead_ppuTick_lcdc, hlcd]), State.ppuTick_of_on hlcd,
      State.ppuTick_of_on hlcd, State.setAcc_nextLines, ← State.nextLines_add]
    have hacc : ((Fin.ofNat 456 (s.ppu.acc.val + m)).val) = (s.ppu.acc.val + m) % 456 := rfl
    rw [State.setAcc_acc, hacc, show (s.ppu.acc.val + m) / 456 + ((s.ppu.acc.val + m) % 456 + n) / 456 =
      (s.ppu.acc.val + (m + n)) / 456 by omega]
    have hmod : Fin.ofNat 456 ((s.ppu.acc.val + m) % 456 + n) = Fin.ofNat 456 (s.ppu.acc.val + (m + n)) := Fin.ext (by
      simp only [Fin.ofNat]; omega)
    rw [hmod]
    rfl

/-- Settles O51: the pixel by its index, whose bytes the two worked examples give. -/
theorem backgroundViewOfATile : Obligations.BackgroundViewOfATile := by
  intro s
  refine ⟨s.length_getVramData, fun bx row => ?_, fun hpal => ⟨fun hzero bx row => ?_, fun htile bx row => ?_⟩⟩
  · rw [s.getElem?_getVramData, bgIndex_eq_planeIndex]; rfl
  · rw [s.getElem?_getVramData, bgIndex_eq_planeIndex, hzero, hzero, hpal]
    exact congrArg (some ∘ Palette.shade _) (planeIndex_zero _)
  · rw [s.getElem?_getVramData, OneBlackTile.bgIndex htile bx.isLt row.isLt, hpal]
    split <;> rfl
end

section
/-! PROOFS. What every step keeps (20_memory.md R50; 62_apu.md R330 to R335): each part of a step keeps the invariant, the machine that
construction builds meets it, and the devices leave their registers settled. -/

namespace Sys2Proof.Machine

/-! ### The channels -/

theorem Channel.Ok.of_disabled {ch : Channel} (h : ch.enabled = false) : ch.Ok :=
  ⟨fun he => absurd (h.symm.trans he) (by decide), fun he => absurd (h.symm.trans he) (by decide)⟩

/-- A tick keeps the timers of an enabled channel within their reloads (62_apu.md R333). -/
theorem Channel.Ok.advance {ch : Channel} (h : ch.Ok) (n : Nat) : (ch.advance n).Ok := by
  cases he : ch.enabled with
  | false => rw [Channel.advance_of_disabled he]; exact h
  | true =>
    obtain ⟨htimer, -, -, hreload, hperiod⟩ := Channel.advance_duty he n
    obtain ⟨hpos, hle⟩ := h.chan he
    refine ⟨fun _ => ?_, fun _ hp => ?_⟩
    · rw [htimer, hreload]
      exact countDown_bounds (hpos.trans hle) hle
    · rw [hperiod] at hp ⊢
      rw [(Channel.advance_of_period he hp n).1]
      exact countDown_bounds hp (h.period he hp).2

/-- A channel starts with both timers at their reloads; the channel reload is at least the duty unit, since a frequency is below 2048
(62_apu.md R331, R332). -/
theorem State.triggered_ok (s : State) (c : ChannelId) (h : 1 ≤ s.cfg.dutyStepScale) : (s.triggered c).Ok := by
  have hfreq : s.frequency c < 2048 := by
    have := (s.memRead c.nr3).isLt
    rw [State.frequency]
    omega
  have hreload : 1 ≤ (2048 - s.frequency c) * s.cfg.dutyStepScale := Nat.mul_pos (by omega) h
  exact ⟨fun _ => ⟨hreload, le_rfl⟩, fun _ hp => ⟨hp, le_rfl⟩⟩

/-! ### The invariant, part by part -/

theorem Inv.channel {s : State} (h : Inv s) (c : ChannelId) : (s.channel c).Ok := by
  cases c
  · exact h.ch1
  · exact h.ch2

theorem Config.wellFormed_iff {cfg : Config} : cfg.wellFormed = true ↔
    1 ≤ cfg.samplePeriod ∧ 1 ≤ cfg.dutyStepScale ∧ ∀ o ∈ cfg.cycleOverrides, 4 ≤ o.2 := by
  simp [Config.wellFormed, and_assoc]

/-- An instruction keeps the invariant: of what it speaks of, an instruction writes the memory alone. -/
theorem Inv.afterInstr {s : State} (h : Inv s) (i : Instr) : Inv (s.afterInstr i) := by
  refine ⟨?_, ?_, ?_, ?_, ?_⟩
  · rw [State.afterInstr, State.applyEiDelay_mem]
    exact Form.wf_run _ h.memory
  · rw [State.afterInstr_cfg]; exact h.config
  · rw [State.afterInstr_apu, State.afterInstr_cfg]; exact h.sampleTimer
  · rw [State.afterInstr_apu]; exact h.ch1
  · rw [State.afterInstr_apu]; exact h.ch2

theorem Inv.ppuTick {s : State} (h : Inv s) (n : Nat) : Inv (s.ppuTick n) := by
  refine ⟨State.wf_ppuTick h.memory n, ?_, ?_, ?_, ?_⟩
  · rw [State.ppuTick_cfg]; exact h.config
  · rw [State.ppuTick_apu, State.ppuTick_cfg]; exact h.sampleTimer
  · rw [State.ppuTick_apu]; exact h.ch1
  · rw [State.ppuTick_apu]; exact h.ch2

/-- A trigger keeps the invariant: the channel it starts is within its reloads, the other is as it was. -/
theorem Inv.trigger {s : State} (h : Inv s) (c : ChannelId) : Inv (s.trigger c) := by
  have hscale := (Config.wellFormed_iff.1 h.config).2.1
  have hch (d : ChannelId) : ((s.trigger c).channel d).Ok := by
    by_cases hd : d = c
    · subst hd
      rw [State.channel_trigger]
      split
      · exact s.triggered_ok d hscale
      · exact h.channel d
    · rw [State.channel_trigger_of_ne s hd]
      exact h.channel d
  refine ⟨State.wf_trigger h.memory c, ?_, ?_, hch .one, hch .two⟩
  · rw [State.trigger_cfg]; exact h.config
  · rw [State.trigger_sampleTimer, State.trigger_cfg]; exact h.sampleTimer

theorem Inv.advanceChannels {s : State} (h : Inv s) (n : Nat) : Inv (s.advanceChannels n) :=
  ⟨h.memory, h.config, h.sampleTimer, h.ch1.advance n, h.ch2.advance n⟩

theorem Inv.sampleTick {s : State} (h : Inv s) (n : Nat) : Inv (s.sampleTick n) :=
  ⟨h.memory, h.config, countDown_bounds (h.sampleTimer.1.trans h.sampleTimer.2) h.sampleTimer.2, h.ch1, h.ch2⟩

theorem Inv.tickDevices {s : State} (h : Inv s) : Inv s.tickDevices :=
  ((((h.ppuTick s.cycles).trigger .one).trigger .two).advanceChannels s.cycles).sampleTick s.cycles

/-- The reset state with an image that fits meets the invariant (50_cpu_driver.md R258): both channels are off, the sample timer is at
its period. -/
theorem inv_resetWith {cfg : Config} (h : cfg.wellFormed = true) {m : Memory} (hm : m.wf) :
    Inv { State.resetWith cfg with mem := m } :=
  ⟨hm, h, ⟨(Config.wellFormed_iff.1 h).1, le_rfl⟩, .of_disabled rfl, .of_disabled rfl⟩

/-! ### Construction -/

theorem construct_of_fits {cfg : Config} {image : List Byte} (h : image.length ≤ 65536) :
    construct cfg image = .next { State.resetWith cfg with mem := Memory.ofImage 0 image } :=
  if_pos (decide_eq_true h)

theorem construct_of_too_long {cfg : Config} {image : List Byte} (h : 65536 < image.length) :
    construct cfg image = .refused (.imageTooLong image.length) :=
  if_neg (by rw [imageFits, decide_eq_false (by omega)]; decide)

/-- Every register reads 0 at construction (10_state.md R33). -/
theorem State.getRegister8_resetWith (cfg : Config) (m : Memory) (r : Reg8) :
    State.getRegister8 { State.resetWith cfg with mem := m } r = 0 := by
  have hf : Flags.toByte ⟨false, false, false, false⟩ = 0 := by decide
  cases r with
  | f => exact hf
  | _ => rfl

/-- Every pixel of the screen is white at construction (61_ppu.md R311). -/
theorem State.screen_resetWith (cfg : Config) (m : Memory) (x : Fin 160) (y : Fin 144) :
    State.screen { State.resetWith cfg with mem := m } x y = .white := by
  obtain ⟨x, hx⟩ := x
  obtain ⟨y, hy⟩ := y
  change ((Vector.replicate 144 (Vector.replicate 160 Shade.white))[y])[x] = .white
  rw [Vector.getElem_replicate, Vector.getElem_replicate]

/-! ### The registers of the devices -/

/-- 61_ppu.md R304: LY after a PPU tick while the LCD is off. -/
theorem State.memRead_ppuTick_ly_of_off {s : State} (h : (s.memRead addrLcdc).getLsbD 7 = false) (n : Nat) :
    (s.ppuTick n).memRead addrLy = 0 := by
  rw [State.ppuTick_of_off h, State.memRead_plainWrite, if_pos rfl]

/-- An APU tick writes the two trigger registers at most (62_apu.md R332). -/
theorem State.memRead_apuTick_of_ne (s : State) (n : Nat) {b : Word} (h1 : b ≠ ChannelId.one.nr4) (h2 : b ≠ ChannelId.two.nr4) :
    (s.apuTick n).memRead b = s.memRead b := by
  rw [State.memRead_apuTick, State.memRead_trigger_of_ne _ _ h2, State.memRead_trigger_of_ne _ _ h1]

/-- 62_apu.md R332: both trigger bits are clear after an APU tick. -/
theorem State.apuTick_bit_clear (s : State) (n : Nat) (c : ChannelId) : ((s.apuTick n).memRead c.nr4).getLsbD 7 = false := by
  rw [State.memRead_apuTick]
  cases c with
  | one => rw [State.memRead_trigger_of_ne _ _ (by decide)]; exact s.trigger_bit_clear .one
  | two => exact (s.trigger .one).trigger_bit_clear .two

end Sys2Proof.Machine

open Sys2Proof Sys2Proof.Machine

/-- Settles O46: the instruction and the device ticks each keep the invariant. -/
theorem stepKeepsTheInvariant : Obligations.StepKeepsTheInvariant := by
  intro s t h hst
  obtain ⟨i, -, rfl⟩ := step_next hst
  exact ⟨(h.afterInstr i).tickDevices, by rw [State.tickDevices_cfg, State.afterInstr_cfg]⟩

/-- Settles O47: reset and every construction that is not refused are reset states with a canonical memory. -/
theorem builtMachineMeetsTheInvariant : Obligations.BuiltMachineMeetsTheInvariant := by
  refine ⟨inv_resetWith (by decide) Memory.wf_nil, fun cfg image t hcfg ht => ?_⟩
  rcases Nat.lt_or_ge 65536 image.length with hlong | hfits
  · rw [construct_of_too_long hlong] at ht
    cases ht
  · rw [construct_of_fits hfits] at ht
    obtain rfl := Host.Outcome.next.inj ht
    exact inv_resetWith hcfg (Memory.wf_ofImage image 0 (by omega)).1

/-- Settles O32: each field of the reset state, and the bytes of the image over zeroes. -/
theorem constructionResets : Obligations.ConstructionResets := by
  refine ⟨fun cfg image h => ⟨_, construct_of_fits h, State.getRegister8_resetWith cfg _, rfl, rfl, rfl, rfl, fun a => ?_, rfl, rfl,
    State.screen_resetWith cfg _, rfl, ⟨rfl, rfl⟩, rfl, rfl⟩, fun cfg image h => construct_of_too_long h, rfl⟩
  exact (Memory.read_ofImage image 0 a.toNat).trans (if_pos (Nat.zero_le _))

/-- Settles O52: the APU tick clears the trigger bits, the PPU tick before it LY, which the APU does not write. -/
theorem deviceRegistersAfterAStep : Obligations.DeviceRegistersAfterAStep := by
  intro s t hst
  obtain ⟨i, -, rfl⟩ := step_next hst
  generalize s.afterInstr i = u
  refine ⟨State.apuTick_bit_clear _ _ .one, State.apuTick_bit_clear _ _ .two, fun hoff => ?_⟩
  have hlcdc : u.tickDevices.memRead addrLcdc = u.memRead addrLcdc := by
    rw [State.tickDevices, State.memRead_apuTick_of_ne _ _ (by decide) (by decide), State.memRead_ppuTick_lcdc]
  have hly : u.tickDevices.memRead addrLy = (u.ppuTick u.cycles).memRead addrLy :=
    State.memRead_apuTick_of_ne _ _ (by decide) (by decide)
  exact hly.trans (State.memRead_ppuTick_ly_of_off ((congrArg (·.getLsbD 7) hlcdc).symm.trans hoff) _)

end

section
/-! PROOFS. The driver (50_cpu_driver.md R254 to R257): how the loop of the frame tick goes on after each step, and why the steps it is
given are enough. -/

namespace Sys2Proof.Machine

/-- A step keeps the configuration. -/
theorem step_cfg {s t : State} (h : step s = .next t) : t.cfg = s.cfg := by
  obtain ⟨i, -, rfl⟩ := step_next h
  rw [State.tickDevices_cfg, State.afterInstr_cfg]

/-- With a well-formed configuration a step takes at least 4 cycles (50_cpu_driver.md R250). -/
theorem step_cycles_ge {s t : State} (hcfg : s.cfg.wellFormed = true) (h : step s = .next t) : 4 ≤ t.cycles := by
  obtain ⟨i, -, rfl⟩ := step_next h
  obtain ⟨k, hk⟩ := Form.run_cycles i.form (s.advancePc i.size)
  rw [State.tickDevices_cycles, State.afterInstr, State.applyEiDelay_cycles, hk]
  exact cyclesOf_ge _ hcfg k

/-! ### The loop after one step -/

section
variable {s t : State} {acc budget : Nat} {breakpoints : List Word} (k : Nat)

theorem frameLoop_of_fault {f : Fault} (h : step s = .fault f) :
    frameLoop (k + 1) s acc budget breakpoints = (.decodeError f, s) := by
  simp only [frameLoop, h]

theorem frameLoop_of_breakpoint (h : step s = .next t) (hpc : t.cpu.pc ∈ breakpoints) :
    frameLoop (k + 1) s acc budget breakpoints = (.hitBreakpoint, t) := by
  simp only [frameLoop, h, if_pos hpc]

theorem frameLoop_of_budget (h : step s = .next t) (hpc : t.cpu.pc ∉ breakpoints) (hacc : budget < acc + t.cycles) :
    frameLoop (k + 1) s acc budget breakpoints = (.frameComplete, t) := by
  simp only [frameLoop, h, if_neg hpc, if_pos hacc]

theorem frameLoop_of_next (h : step s = .next t) (hpc : t.cpu.pc ∉ breakpoints) (hacc : acc + t.cycles ≤ budget) :
    frameLoop (k + 1) s acc budget breakpoints = frameLoop k t (acc + t.cycles) budget breakpoints := by
  simp only [frameLoop, h, if_neg hpc, if_neg (Nat.not_lt.2 hacc)]

end

/-! ### The steps are enough -/

/-- 50_cpu_driver.md R255: a frame tick's outcome is a breakpoint, the end of the budget or a DecodeError. -/
def EndsFrame (r : TickResult) : Prop :=
  r = .hitBreakpoint ∨ r = .frameComplete ∨ ∃ kind addr byte, r = .decodeError (.decodeError kind addr byte)

/-- While `k` more steps of 4 cycles would pass the budget, the loop ends within `k` steps. -/
theorem frameLoop_ends {s : State} {k acc budget : Nat} (breakpoints : List Word) (hcfg : s.cfg.wellFormed = true) (hacc : acc ≤ budget)
    (hk : budget < acc + 4 * k) : EndsFrame (frameLoop k s acc budget breakpoints).1 := by
  induction k generalizing s acc with
  | zero => omega
  | succ k ih =>
    cases h : step s with
    | fault f =>
      rw [frameLoop_of_fault k h]
      obtain ⟨kind, addr, byte⟩ := f
      exact .inr (.inr ⟨kind, addr, byte, rfl⟩)
    | refused r =>
      rcases step_cases s with ⟨i, -, hs⟩ | ⟨v, -, hs⟩ | ⟨v, -, hs⟩ | ⟨v, -, hs⟩
      all_goals rw [hs] at h; cases h
    | next t =>
      have hcycles := step_cycles_ge hcfg h
      by_cases hpc : t.cpu.pc ∈ breakpoints
      · rw [frameLoop_of_breakpoint k h hpc]
        exact .inl rfl
      · rcases Nat.lt_or_ge budget (acc + t.cycles) with hlt | hge
        · rw [frameLoop_of_budget k h hpc hlt]
          exact .inr (.inl rfl)
        · rw [frameLoop_of_next k h hpc hge]
          exact ih (by rw [step_cfg h]; exact hcfg) hge (by omega)

/-! ### The loop along a run -/

theorem cyclesOfRun_succ (trace : Nat → State) (j : Nat) :
    cyclesOfRun trace (j + 1) = cyclesOfRun trace j + (trace (j + 1)).cycles := by
  rw [cyclesOfRun, List.range_succ, List.map_append, List.sum_append]
  rfl

section
variable {n : Nat} {trace : Nat → State} (hrun : RunOf n trace) (hcfg : (trace 0).cfg.wellFormed = true)
include hrun hcfg

/-- A run keeps the configuration, and each of its steps takes at least 4 cycles. -/
theorem RunOf.wellFormed {j : Nat} (hj : j ≤ n) : (trace j).cfg.wellFormed = true ∧ 4 * j ≤ cyclesOfRun trace j := by
  induction j with
  | zero => exact ⟨hcfg, Nat.zero_le _⟩
  | succ j ih =>
    obtain ⟨hwf, hge⟩ := ih (by omega)
    have hstep := hrun j (by omega)
    have hcycles := step_cycles_ge hwf hstep
    rw [cyclesOfRun_succ, step_cfg hstep]
    exact ⟨hwf, by omega⟩

/-- 50_cpu_driver.md R254: a frame tick that met no breakpoint and stayed within the budget for `j` steps stands after step `j`, with at
least one step left. -/
theorem RunOf.frameTick_eq {budget j : Nat} {breakpoints : List Word} (hj : j ≤ n)
    (hgo : ∀ i, 1 ≤ i → i ≤ j → (trace i).cpu.pc ∉ breakpoints ∧ cyclesOfRun trace i ≤ budget) :
    frameTick (trace 0) budget breakpoints =
      frameLoop (budget / 4 - j + 1) (trace j) (cyclesOfRun trace j) budget breakpoints := by
  induction j with
  | zero => rfl
  | succ j ih =>
    obtain ⟨hpc, hbudget⟩ := hgo (j + 1) (by omega) le_rfl
    have hge := (RunOf.wellFormed hrun hcfg hj).2
    rw [ih (by omega) fun i h1 hi => hgo i h1 (by omega)]
    rw [cyclesOfRun_succ] at hbudget hge ⊢
    rw [frameLoop_of_next _ (hrun j (by omega)) hpc hbudget, show budget / 4 - j = budget / 4 - (j + 1) + 1 by omega]

end

end Sys2Proof.Machine

open Sys2Proof Sys2Proof.Machine

/-- Settles O59: at the start the budget is not passed, and floor(budget / 4) + 1 steps of 4 cycles pass it. -/
theorem frameTickEnds : Obligations.FrameTickEnds := fun _ budget breakpoints hcfg =>
  frameLoop_ends breakpoints hcfg (Nat.zero_le budget) (by omega)

/-- Settles O60: after the step before the last the frame tick goes on, and its next step is the last of the run. -/
theorem breakpointIsNotOvershot : Obligations.BreakpointIsNotOvershot := by
  intro k budget breakpoints trace hk hcfg hrun hgo
  obtain ⟨j, rfl⟩ : ∃ j, k = j + 1 := ⟨k - 1, by omega⟩
  have hstep := hrun j (by omega)
  have htick := RunOf.frameTick_eq (j := j) hrun hcfg (by omega) fun i h1 hi => hgo i h1 (by omega)
  refine ⟨fun hpc => ?_, fun hpc hlt => ?_, fun hpc hle f hf => ?_⟩
  · rw [htick, frameLoop_of_breakpoint _ hstep hpc]
  · rw [cyclesOfRun_succ] at hlt
    rw [htick, frameLoop_of_budget _ hstep hpc hlt]
  · rw [RunOf.frameTick_eq hrun hcfg le_rfl fun i h1 hi => ?_, frameLoop_of_fault _ hf]
    rcases Nat.lt_or_ge i (j + 1) with hlt | hge
    · exact hgo i h1 hlt
    · obtain rfl : i = j + 1 := by omega
      exact ⟨hpc, hle⟩
end

section
/-! PROOFS. The bus and the stack as a reader of memory sees them (20_memory.md R52 to R58, R63; 61_ppu.md R303), and the pairs of the
register file (10_state.md R21, R23, R25). -/

namespace Sys2Proof.Machine

/-! ### One store -/

theorem Shade.code_ofCode (c : Fin 4) : (Shade.ofCode c).code = c := by revert c; decide

/-- 61_ppu.md R303: entry `i` of the palette that a byte sets is bits 2i+1..2i of the byte. -/
theorem Palette.shade_ofByte (v : Byte) (i : Fin 4) :
    (Palette.ofByte v).shade i = Shade.ofCode (Fin.ofNat 4 (v.toNat / 4 ^ i.val)) := by
  have hshift (k : Nat) : v.toNat >>> (2 * k) = v.toNat / 4 ^ k := by rw [Nat.shiftRight_eq_div_pow, Nat.pow_mul]
  simp only [Palette.ofByte, hshift]
  fin_cases i <;> rfl

/-- The addresses that a DMA copy fills, as an offset from its base (20_memory.md R55). -/
theorem State.dmaTouches_iff {s : State} {a b : Word} :
    s.dmaTouches a b ↔ s.runsDma a = true ∧ (dmaOffset b).toNat < 160 := by
  have hoff : (dmaOffset b).toNat < 160 ↔ 0xFE00 ≤ b.toNat ∧ b.toNat ≤ 0xFE9F := by
    have := b.isLt
    have hd : dmaDest.toNat = 65024 := rfl
    rw [dmaOffset, BitVec.toNat_sub, hd]
    omega
  rw [State.runsDma, Bool.and_eq_true, decide_eq_true_iff, hoff, and_assoc]
  rfl

/-- Byte `i` of the DMA copy comes from byte `i` of the source page, read after the store that started the copy (20_memory.md R55). -/
theorem State.memRead_memWrite_dma {s : State} {v : Byte} (hd : s.cfg.dmaEnabled = true) {i : Nat} (hi : i < 160) :
    (s.memWrite 0xFF46 v).memRead (BitVec.ofNat 16 (0xFE00 + i)) =
      if v.toNat * 256 + i = 0xFF46 then v else s.memRead (BitVec.ofNat 16 (v.toNat * 256 + i)) := by
  have hv := v.isLt
  have hoff : dmaOffset (BitVec.ofNat 16 (0xFE00 + i)) = BitVec.ofNat 16 i := by
    rw [dmaOffset, show dmaDest = BitVec.ofNat 16 0xFE00 from rfl, BitVec.ofNat_add]
    simp
  have hsrc : join v 0 + BitVec.ofNat 16 i = BitVec.ofNat 16 (v.toNat * 256 + i) := by
    apply BitVec.eq_of_toNat_eq
    rw [BitVec.toNat_add, join_toNat, BitVec.toNat_ofNat, BitVec.toNat_ofNat, show (0 : Byte).toNat = 0 from rfl]
    omega
  have haddr : BitVec.ofNat 16 (v.toNat * 256 + i) = (0xFF46 : Word) ↔ v.toNat * 256 + i = 0xFF46 := by
    rw [← BitVec.toNat_inj, BitVec.toNat_ofNat, Nat.mod_eq_of_lt (by omega)]
    rfl
  have hruns : s.runsDma 0xFF46 = true := by rw [State.runsDma, hd]; rfl
  rw [State.memRead_memWrite, hoff, if_pos ⟨hruns, by rw [BitVec.toNat_ofNat]; omega⟩, hsrc, State.memRead_plainWrite]
  exact if_congr haddr rfl rfl

/-- 20_memory.md R52, R54, R55: all that a `MemWrite` does, as a reader sees it. -/
theorem stored_memWrite (s : State) (a : Word) (v : Byte) : Stored a v s (s.memWrite a v) where
  byte := s.memRead_memWrite_self a v
  outside b hb hd := s.memRead_memWrite_of_ne a b v hb (State.dmaTouches_iff.not.1 hd)
  copied ha hd i hi := by subst ha; exact State.memRead_memWrite_dma hd hi
  paletteSet ha i := by
    have hpal : (s.memWrite a v).ppu.palette = Palette.ofByte v := (s.memWrite_palette a v).trans (if_pos ha)
    rw [hpal, Palette.shade_ofByte, Shade.code_ofCode]
    rfl
  paletteKept ha := (s.memWrite_palette a v).trans (if_neg ha)
  acc := s.memWrite_acc a v
  framebuffer := s.memWrite_fb a v
  apu := s.memWrite_apu a v
  samples := s.memWrite_samples a v
  config := s.memWrite_cfg a v

/-! ### Stores beside changes of the CPU -/

/-- Nothing but the CPU and the reported count may differ. -/
structure OnlyCpu (s t : State) : Prop where
  mem : t.mem = s.mem
  ppu : t.ppu = s.ppu
  apu : t.apu = s.apu
  samples : t.samples = s.samples
  config : t.cfg = s.cfg

theorem OnlyCpu.memRead {s t : State} (h : OnlyCpu s t) (b : Word) : t.memRead b = s.memRead b := State.memRead_congr h.mem b

/-- A store is seen alike whatever the CPU does after it. -/
theorem Stored.of_onlyCpu {a : Word} {v : Byte} {s t u : State} (h : Stored a v s t) (htu : OnlyCpu t u) : Stored a v s u where
  byte := (htu.memRead a).trans h.byte
  outside b hb hd := (htu.memRead b).trans (h.outside b hb hd)
  copied ha hd i hi := (htu.memRead _).trans (h.copied ha hd i hi)
  paletteSet ha i := by rw [htu.ppu]; exact h.paletteSet ha i
  paletteKept ha := by rw [htu.ppu]; exact h.paletteKept ha
  acc := by rw [htu.ppu]; exact h.acc
  framebuffer := by rw [htu.ppu]; exact h.framebuffer
  apu := htu.apu.trans h.apu
  samples := htu.samples.trans h.samples
  config := htu.config.trans h.config

/-- A store is seen alike whatever the CPU did before it. -/
theorem Stored.from_onlyCpu {a : Word} {v : Byte} {r s t : State} (h : Stored a v s t) (hrs : OnlyCpu r s) : Stored a v r t where
  byte := h.byte
  outside b hb hd := (h.outside b hb (by rwa [State.dmaTouches, hrs.config])).trans (hrs.memRead b)
  copied ha hd i hi := by rw [h.copied ha (by rwa [hrs.config]) i hi, hrs.memRead]
  paletteSet := h.paletteSet
  paletteKept ha := (h.paletteKept ha).trans (by rw [hrs.ppu])
  acc := h.acc.trans (by rw [hrs.ppu])
  framebuffer := h.framebuffer.trans (by rw [hrs.ppu])
  apu := h.apu.trans hrs.apu
  samples := h.samples.trans hrs.samples
  config := h.config.trans hrs.config

/-- Two stores leave every byte but the two stored and those of a DMA copy. -/
theorem StoredTwice.outside {a b : Word} {v w : Byte} {s t : State} (h : StoredTwice a v b w s t) : KeepsMemoryOutside a b s t := by
  obtain ⟨m, hfirst, hsecond⟩ := h
  intro d hda hdb hta htb
  exact (hsecond.outside d hdb (by rwa [State.dmaTouches, hfirst.config])).trans (hfirst.outside d hda hta)

theorem StoredTwice.of_onlyCpu {a b : Word} {v w : Byte} {s t u : State} (h : StoredTwice a v b w s t) (htu : OnlyCpu t u) :
    StoredTwice a v b w s u :=
  let ⟨m, hfirst, hsecond⟩ := h
  ⟨m, hfirst, hsecond.of_onlyCpu htu⟩

theorem storedTwice_memWrite (s : State) (a b : Word) (v w : Byte) : StoredTwice a v b w s ((s.memWrite a v).memWrite b w) :=
  ⟨_, stored_memWrite s a v, stored_memWrite _ b w⟩

/-- The first of two bytes stored at neighbouring addresses stays: if the second store starts a DMA copy, it fills lower addresses. -/
theorem memRead_memWrite_memWrite_succ (s : State) (a : Word) (v w : Byte) :
    ((s.memWrite a v).memWrite (a + 1) w).memRead a = v := by
  rw [State.memRead_memWrite_of_ne _ _ _ _ (Word.ne_add_one a), State.memRead_memWrite_self]
  rintro ⟨hruns, hoff⟩
  simp only [State.runsDma, Bool.and_eq_true, decide_eq_true_eq] at hruns
  obtain rfl : a = addrDma - 1 := by rw [← hruns.1]; simp
  exact absurd hoff (by decide)

/-! ### The stack -/

theorem hi_eq_ofNat (w : Word) : hi w = BitVec.ofNat 8 (w.toNat / 256) := by
  rw [← hi_toNat, BitVec.ofNat_toNat, BitVec.setWidth_eq]

theorem lo_eq_ofNat (w : Word) : lo w = BitVec.ofNat 8 (w.toNat % 256) := by
  rw [← lo_toNat, BitVec.ofNat_toNat, BitVec.setWidth_eq]

/-- 20_memory.md R57: what `Push16` does. -/
theorem pushed_push16 (s : State) (w : Word) : Pushed w s (s.push16 w) := by
  have hstores : StoredTwice (s.cpu.sp - 2) (hi w) (s.cpu.sp - 2 + 1) (lo w) s (s.push16 w) :=
    ⟨_, (stored_memWrite (s.setSp (s.cpu.sp - 2)) _ _).from_onlyCpu ⟨rfl, rfl, rfl, rfl, rfl⟩, stored_memWrite _ _ _⟩
  obtain ⟨hhigh, hlow⟩ := s.memRead_push16 w
  refine ⟨by rw [State.push16_cpu], by rw [hhigh, hi_toNat], by rw [hlow, lo_toNat], hstores.outside, ?_⟩
  rwa [← hi_eq_ofNat, ← lo_eq_ofNat]

theorem Pushed.of_onlyCpu {w : Word} {s t u : State} (h : Pushed w s t) (htu : OnlyCpu t u) (hsp : u.cpu.sp = t.cpu.sp) :
    Pushed w s u where
  sp := hsp.trans h.sp
  high := by rw [htu.memRead]; exact h.high
  low := by rw [htu.memRead]; exact h.low
  outside d hda hdb hta htb := (htu.memRead d).trans (h.outside d hda hdb hta htb)
  stores := h.stores.of_onlyCpu htu

/-- 20_memory.md R58: the word that a pop reads. -/
theorem State.stackTop_toNat (s : State) : s.stackTop.toNat = s.popped := join_toNat _ _

/-! ### The register file -/

/-- AF drops the low nibble of F as F does (10_state.md R25). -/
theorem join_and_mask (h l : Byte) : join h (l &&& 0xF0) = join h l &&& 0xFFF0 := by
  have hmask : (0xFFF0 : Word) = BitVec.allOnes 8 ++ (0xF0 : Byte) := rfl
  rw [hmask, join, join, BitVec.and_append, BitVec.and_allOnes]

/-- 10_state.md R23: a 16-bit write reads back, but of AF. -/
theorem State.getRegister16_setRegister16 (s : State) {r : Reg16} (hr : r ≠ .af) (w : Word) :
    (s.setRegister16 r w).getRegister16 r = w := by
  cases r with
  | af => exact absurd rfl hr
  | bc => exact join_hi_lo w
  | de => exact join_hi_lo w
  | hl => exact join_hi_lo w
  | sp => rfl
  | pc => rfl

/-- 10_state.md R25: AF reads back without the low nibble of F. -/
theorem State.getRegister16_setRegister16_af (s : State) (w : Word) :
    (s.setRegister16 .af w).getRegister16 .af = w &&& 0xFFF0 := by
  change join (hi w) (Flags.ofByte (lo w)).toByte = _
  rw [Flags.toByte_ofByte, join_and_mask, join_hi_lo]

/-- A register label but F reads the operand registers, which a write of F, SP or PC leaves. -/
theorem State.getRegister8_congr {s t : State} {q : Reg8} (hq : q ≠ .f) (h : ∀ r, t.reg r = s.reg r) :
    t.getRegister8 q = s.getRegister8 q := by
  obtain ⟨r, rfl⟩ := exists_regLabel_eq hq
  rw [State.getRegister8_regLabel, State.getRegister8_regLabel, h]

end Sys2Proof.Machine

open Sys2Proof Sys2Proof.Machine

/-- Settles O30: the halves of a pair, and what each write reads back as and leaves. -/
theorem pairRegisterAccess : Obligations.PairRegisterAccess := by
  intro w v s
  refine ⟨⟨join_toNat _ _, join_toNat _ _, join_toNat _ _, rfl, join_toNat _ _⟩, fun r hr => s.getRegister16_setRegister16 hr w,
    s.getRegister16_setRegister16_af w, Flags.toByte_ofByte v, fun q hq => ?_, fun q => ?_, rfl, fun q => ?_, rfl⟩
  · exact State.getRegister8_congr hq (s.setFlags_reg (Flags.ofByte v))
  · cases q <;> rfl
  · cases q <;> rfl

/-- Settles O33: `setMemoryAt` is a `MemWrite`. -/
theorem memWriteAndObservers : Obligations.MemWriteAndObservers :=
  fun a v s => ⟨stored_memWrite s a v, s.memWrite_cpu a v⟩

/-- Settles O34: the two bytes of a push read back, and the two moves of SP cancel. -/
theorem popAfterPush : Obligations.PopAfterPush := by
  intro w s
  obtain ⟨hhigh, hlow⟩ := s.memRead_push16 w
  refine ⟨?_, ?_⟩
  · rw [State.stackTop, State.push16_cpu, hhigh, hlow, join_hi_lo]
  · rw [State.dropTop, State.setSp, State.push16_cpu]
    dsimp only
    rw [BitVec.sub_add_cancel]

/-- Settles O35: a slice is a map over a range that ends at 65536. -/
theorem memorySliceClamps : Obligations.MemorySliceClamps := by
  intro a n s
  have hlen : (s.getMemorySlice a n).length = min n (65536 - a.toNat) := by
    rw [State.getMemorySlice, List.length_map, List.length_range]
  refine ⟨hlen, fun k hk => ?_⟩
  have haddr : (BitVec.ofNat 16 (a.toNat + k)).toNat = a.toNat + k := by
    rw [BitVec.toNat_ofNat, Nat.mod_eq_of_lt (by omega)]
  rw [List.getD_eq_getElem _ _ hk, State.getMemoryAt, State.memRead, haddr]
  simp only [State.getMemorySlice, List.getElem_map, List.getElem_range]

end

section
/-! PROOFS. The instructions (files 40 to 46): what an operation of a meaning leaves unchanged, and the count of a form; then the loads,
stores and jumps. -/

namespace Sys2Proof.Machine

/-! ### What stays unchanged, operation by operation -/

section
variable {w : List Reg} {s t u : State}

theorem KeepsFlags.of_eq (h : t.cpu.flags = s.cpu.flags) : KeepsFlags s t := fun f => congrArg (·.get f) h

theorem OnlyRegsAndFlags.refl (w : List Reg) (s : State) : OnlyRegsAndFlags w s s :=
  ⟨fun _ _ => rfl, rfl, rfl, ⟨rfl, rfl⟩, fun _ => rfl, ⟨rfl, rfl, rfl, rfl⟩⟩

theorem OnlyRegsAndFlags.trans (h : OnlyRegsAndFlags w s t) (h' : OnlyRegsAndFlags w t u) : OnlyRegsAndFlags w s u where
  regs r hr := (h'.regs r hr).trans (h.regs r hr)
  sp := h'.sp.trans h.sp
  pc := h'.pc.trans h.pc
  interrupts := ⟨h'.interrupts.1.trans h.interrupts.1, h'.interrupts.2.trans h.interrupts.2⟩
  memory b := (h'.memory b).trans (h.memory b)
  devices :=
    let ⟨p, a, c, d⟩ := h.devices
    let ⟨p', a', c', d'⟩ := h'.devices
    ⟨p'.trans p, a'.trans a, c'.trans c, d'.trans d⟩

theorem OnlyRegsAndFlags.report (h : OnlyRegsAndFlags w s t) (k : CycleKey) : OnlyRegsAndFlags w s (t.report k) :=
  h.trans ⟨fun _ _ => t.report_reg k _, rfl, rfl, ⟨rfl, rfl⟩, fun _ => rfl, ⟨rfl, rfl, rfl, rfl⟩⟩

theorem OnlyRegsAndFlags.setFlags (h : OnlyRegsAndFlags w s t) (f : Flags) : OnlyRegsAndFlags w s (t.setFlags f) :=
  h.trans ⟨fun _ _ => t.setFlags_reg f _, rfl, rfl, ⟨rfl, rfl⟩, fun _ => rfl, ⟨rfl, rfl, rfl, rfl⟩⟩

theorem OnlyRegsAndFlags.setReg (h : OnlyRegsAndFlags w s t) {r : Reg} (hr : r ∈ w) (v : Byte) :
    OnlyRegsAndFlags w s (t.setReg r v) := by
  refine h.trans ⟨fun q hq => t.setReg_reg_of_ne r q v fun e => hq (e ▸ hr), ?_, ?_, ?_, ?_, ?_⟩
  · exact t.setReg_sp r v
  · exact t.setReg_pc r v
  · exact ⟨t.setReg_ime r v, t.setReg_eiDelay r v⟩
  · exact State.memRead_congr (t.setReg_mem r v)
  · exact ⟨t.setReg_ppu r v, t.setReg_apu r v, t.setReg_samples r v, t.setReg_cfg r v⟩

/-- HL is written as its two halves (10_state.md R23). -/
theorem OnlyRegsAndFlags.setHl (h : OnlyRegsAndFlags w s t) (hh : .h ∈ w) (hl : .l ∈ w) (v : Word) :
    OnlyRegsAndFlags w s (t.setPair .hl v) :=
  (h.setReg hh (hi v)).setReg hl (lo v)

theorem OnlyRegs.refl (w : List Reg) (s : State) : OnlyRegs w s s := ⟨.refl w s, fun _ => rfl⟩

theorem OnlyRegs.report (h : OnlyRegs w s t) (k : CycleKey) : OnlyRegs w s (t.report k) :=
  ⟨h.toOnlyRegsAndFlags.report k, h.flags⟩

theorem OnlyRegs.setReg (h : OnlyRegs w s t) {r : Reg} (hr : r ∈ w) (v : Byte) : OnlyRegs w s (t.setReg r v) :=
  ⟨h.toOnlyRegsAndFlags.setReg hr v, fun f => (congrArg (·.get f) (t.setReg_flags r v)).trans (h.flags f)⟩

theorem OnlyRegs.setHl (h : OnlyRegs w s t) (hh : .h ∈ w) (hl : .l ∈ w) (v : Word) : OnlyRegs w s (t.setPair .hl v) :=
  (h.setReg hh (hi v)).setReg hl (lo v)

theorem OnlyRegsAndFlags.keepsCpu (h : OnlyRegsAndFlags w s t) : KeepsCpu w s t := ⟨h.regs, h.sp, h.pc, h.interrupts⟩

theorem KeepsCpu.trans (h : KeepsCpu w s t) (h' : KeepsCpu w t u) : KeepsCpu w s u :=
  ⟨fun r hr => (h'.regs r hr).trans (h.regs r hr), h'.sp.trans h.sp, h'.pc.trans h.pc,
    ⟨h'.interrupts.1.trans h.interrupts.1, h'.interrupts.2.trans h.interrupts.2⟩⟩

theorem keepsCpu_memWrite (w : List Reg) (s : State) (a : Word) (v : Byte) : KeepsCpu w s (s.memWrite a v) :=
  ⟨fun r _ => s.memWrite_reg a v r, by rw [KeepsSp, State.memWrite_cpu], by rw [KeepsPc, State.memWrite_cpu],
    by rw [KeepsInterrupts, State.memWrite_cpu]; exact ⟨rfl, rfl⟩⟩

theorem keepsFlags_memWrite (s : State) (a : Word) (v : Byte) : KeepsFlags s (s.memWrite a v) := .of_eq (by rw [State.memWrite_cpu])

end

/-! ### The count -/

/-- A form reports the figure of its key under the cycle table of the rules (70_reset_and_hazards.md R370). -/
theorem reports_report {s t : State} {k : CycleKey} {n : Nat} (hcfg : t.cfg = s.cfg) (hk : k.figure = n) : Reports n s (t.report k) := by
  intro h
  rw [State.report_cycles, hcfg, Config.cyclesOf, h, List.lookup_nil, Option.getD_none, hk]

/-! ### The operands -/

@[simp] theorem State.hl_setPair_hl (s : State) (v : Word) : (s.setPair .hl v).hl = v := join_hi_lo v

@[simp] theorem State.pair_setPair (s : State) (p : Pair) (v : Word) : (s.setPair p v).pair p = v := by
  cases p with
  | sp => rfl
  | _ => exact join_hi_lo v

@[simp] theorem State.hl_memWrite (s : State) (a : Word) (v : Byte) : (s.memWrite a v).hl = s.hl := by
  rw [State.hl, State.memWrite_cpu]; rfl

/-- 30_encoding.md R83: the address of an operand in the high page. -/
theorem highPage_toNat (n : Byte) : (highPage n).toNat = 0xFF00 + n.toNat := join_toNat 0xFF n

/-- A signed displacement is added modulo 2^16 (40_nop_load.md R141; 44_control.md R210; 45_stack.md R233). -/
theorem toNat_add_sext (w : Word) (e : Byte) : ((w + sext e).toNat : Int) = ((w.toNat : Int) + e.toInt) % 65536 := by
  rw [sext, BitVec.signExtend, BitVec.toNat_add, BitVec.toNat_ofInt]
  omega

/-! ### The 16-bit operands -/

/-- The two halves of a pair written (10_state.md R23). -/
theorem keepsRegs_setReg_setReg (s : State) (r q : Reg) (v v' : Byte) : KeepsRegs [r, q] s ((s.setReg r v).setReg q v') :=
  (((OnlyRegs.refl _ s).setReg (by simp) v).setReg (by simp) v').regs

theorem onlyPair_setPair (s : State) (p : Pair) (v : Word) (k : CycleKey) : OnlyPair p s ((s.setPair p v).report k) where
  regs := by
    cases p with
    | bc => exact keepsRegs_setReg_setReg s .b .c (hi v) (lo v)
    | de => exact keepsRegs_setReg_setReg s .d .e (hi v) (lo v)
    | hl => exact keepsRegs_setReg_setReg s .h .l (hi v) (lo v)
    | sp => exact fun _ _ => rfl
  flags := .of_eq (s.setPair_flags p v)
  sp hp := by
    cases p with
    | sp => exact absurd rfl hp
    | _ => rfl
  pc := s.setPair_pc p v
  interrupts := ⟨s.setPair_ime p v, s.setPair_eiDelay p v⟩
  memory := State.memRead_congr (s.setPair_mem p v)
  devices := ⟨s.setPair_ppu p v, s.setPair_apu p v, s.setPair_samples p v, s.setPair_cfg p v⟩

/-! ### The stores -/

/-- A byte stored and a count reported: the end of every byte store. -/
theorem memWrite_report_effect (s : State) (a : Word) (v : Byte) {k : CycleKey} {n : Nat} (hk : k.figure = n) :
    Stored a v s ((s.memWrite a v).report k) ∧ KeepsCpu [] s ((s.memWrite a v).report k) ∧
    KeepsFlags s ((s.memWrite a v).report k) ∧ Reports n s ((s.memWrite a v).report k) :=
  ⟨(stored_memWrite s a v).of_onlyCpu ⟨rfl, rfl, rfl, rfl, rfl⟩,
    (keepsCpu_memWrite _ s a v).trans ((OnlyRegsAndFlags.refl _ _).report k).keepsCpu, keepsFlags_memWrite s a v,
    reports_report (s.memWrite_cfg a v) hk⟩

/-- 70_reset_and_hazards.md R366: a byte stored at HL, HL adjusted after it and a count reported. -/
theorem memWrite_setHl_report_effect (s : State) (v : Byte) (w : Word) {k : CycleKey} {n : Nat} (hk : k.figure = n) :
    Stored s.hl v s (((s.memWrite s.hl v).setPair .hl w).report k) ∧ (((s.memWrite s.hl v).setPair .hl w).report k).hl = w ∧
    KeepsCpu [.h, .l] s (((s.memWrite s.hl v).setPair .hl w).report k) ∧
    KeepsFlags s (((s.memWrite s.hl v).setPair .hl w).report k) ∧ Reports n s (((s.memWrite s.hl v).setPair .hl w).report k) :=
  ⟨(stored_memWrite s s.hl v).of_onlyCpu ⟨rfl, rfl, rfl, rfl, rfl⟩, State.hl_setPair_hl _ w,
    (keepsCpu_memWrite _ s s.hl v).trans (((OnlyRegsAndFlags.refl _ _).setHl (by simp) (by simp) w).report k).keepsCpu,
    keepsFlags_memWrite s s.hl v, reports_report (s.memWrite_cfg s.hl v) hk⟩

/-! The store does not write HL, so the adjusted value is that of the HL of the start. -/

theorem ldIndIncA_eq (s : State) :
    ldIndIncA s = ((s.memWrite s.hl s.cpu.a).setPair .hl (s.hl + 1)).report .ldIndIncA := by
  rw [ldIndIncA, State.incHl, State.storeHl, State.hl_memWrite]

theorem ldIndDecA_eq (s : State) :
    ldIndDecA s = ((s.memWrite s.hl s.cpu.a).setPair .hl (s.hl - 1)).report .ldIndDecA := by
  rw [ldIndDecA, State.decHl, State.storeHl, State.hl_memWrite]

/-- 70_reset_and_hazards.md R366: A loaded from HL, HL adjusted after it and a count reported. -/
theorem setA_setHl_report_effect (s : State) (v : Byte) (w : Word) {k : CycleKey} {n : Nat} (hk : k.figure = n) :
    (((s.setReg .a v).setPair .hl w).report k).cpu.a = v ∧ (((s.setReg .a v).setPair .hl w).report k).hl = w ∧
    OnlyRegs [.a, .h, .l] s (((s.setReg .a v).setPair .hl w).report k) ∧ Reports n s (((s.setReg .a v).setPair .hl w).report k) :=
  ⟨rfl, State.hl_setPair_hl _ w, (((OnlyRegs.refl _ s).setReg (by simp) v).setHl (by simp) (by simp) w).report k,
    reports_report rfl hk⟩

/-- Whether an argument has no adjustment (30_encoding.md R92). -/
def Arg.unadjusted : Arg → Bool
  | .indirect _ adj => decide (adj = .none)
  | _ => true

/-- Every argument of an instruction is without an adjustment, but for four instructions (30_encoding.md R92). -/
theorem unadjusted_or (i : Instr) : (∀ x ∈ i.shape.args, Arg.unadjusted x = true) ∨
    i = .ld_atHLinc_A ∨ i = .ld_atHLdec_A ∨ i = .ld_A_atHLinc ∨ i = .ld_A_atHLdec := by
  rw [← List.all_eq_true]
  cases i with
  | ld_atHLinc_A => exact .inr (.inl rfl)
  | ld_atHLdec_A => exact .inr (.inr (.inl rfl))
  | ld_A_atHLinc => exact .inr (.inr (.inr (.inl rfl)))
  | ld_A_atHLdec => exact .inr (.inr (.inr (.inr rfl)))
  | _ => exact .inl rfl

end Sys2Proof.Machine

open Sys2Proof Sys2Proof.Machine

/-- Settles O1: the meaning reports its count; the step's frame moves PC and applies the EI delay. -/
theorem nopKeepsEverything : Obligations.NopKeepsEverything := by
  intro s
  refine ⟨⟨_, exec_instr .nop s, (OnlyRegs.refl _ s).report _, reports_report rfl rfl⟩,
    ⟨_, runInstr_eq .nop s, State.applyEiDelay_pc _, ?_, s.afterInstr_ime .nop, fun r _ => ?_, .of_eq (State.applyEiDelay_flags _),
      State.applyEiDelay_sp _, State.memRead_congr (State.applyEiDelay_mem _), State.applyEiDelay_ppu _, State.applyEiDelay_apu _,
      State.applyEiDelay_samples _, State.applyEiDelay_cfg _⟩, rfl, rfl⟩
  · rw [State.afterInstr_eiDelay]
    change (if s.cpu.eiDelay = 2 then (1 : Fin 3) else 0).val = s.cpu.eiDelay.val - 1
    generalize s.cpu.eiDelay = d
    revert d; decide
  · exact (State.applyEiDelay_reg _ r).trans (State.report_reg _ _ r)

/-- Settles O2: the operand is read before the register is written. -/
theorem loadsIntoARegister : Obligations.LoadsIntoARegister := fun dst src n s =>
  have hframe (v : Byte) (k : CycleKey) : OnlyRegs [dst] s ((s.setReg dst v).report k) :=
    ((OnlyRegs.refl _ s).setReg (by simp) v).report k
  have hvalue (v : Byte) (k : CycleKey) : ((s.setReg dst v).report k).reg dst = v := s.setReg_reg_self dst v
  ⟨⟨_, exec_instr (.ldRegReg dst src) s, hvalue _ _, hframe _ _, reports_report (s.setReg_cfg dst _) rfl⟩,
    ⟨_, exec_instr (.ldRegInd dst) s, hvalue _ _, hframe _ _, reports_report (s.setReg_cfg dst _) rfl⟩,
    ⟨_, exec_instr (.ldRegImm dst n) s, hvalue _ _, hframe _ _, reports_report (s.setReg_cfg dst _) rfl⟩⟩

/-- Settles O3: A is loaded from the address of the form, the high page's as a number. -/
theorem loadsOfAFromMemory : Obligations.LoadsOfAFromMemory := fun p n w s =>
  have hframe (v : Byte) (k : CycleKey) : OnlyRegs [.a] s ((s.setReg .a v).report k) :=
    ((OnlyRegs.refl _ s).setReg (by simp) v).report k
  ⟨⟨_, exec_instr (.ldAPairInd p) s, rfl, hframe _ _, reports_report rfl rfl⟩,
    ⟨_, exec_instr (.ldhAConst n) s, rfl, highPage_toNat n, hframe _ _, reports_report rfl rfl⟩,
    ⟨_, exec_instr .ldAHighReg s, rfl, highPage_toNat s.cpu.c, hframe _ _, reports_report rfl rfl⟩,
    ⟨_, exec_instr (.ldAAbs w) s, rfl, hframe _ _, reports_report rfl rfl⟩⟩

/-- Settles O4: each form is one store at its address. -/
theorem byteStores : Obligations.ByteStores := fun r p n w s =>
  ⟨⟨_, exec_instr (.ldIndReg r) s, memWrite_report_effect s s.hl (s.reg r) rfl⟩,
    ⟨_, exec_instr (.ldIndImm n) s, memWrite_report_effect s s.hl n rfl⟩,
    ⟨_, exec_instr (.ldPairIndA p) s, memWrite_report_effect s (s.indPair p) s.cpu.a rfl⟩,
    ⟨_, exec_instr (.ldhConstA n) s, memWrite_report_effect s (highPage n) s.cpu.a rfl⟩,
    ⟨_, exec_instr .ldHighRegA s, memWrite_report_effect s s.highReg s.cpu.a rfl⟩,
    ⟨_, exec_instr (.ldAbsA w) s, memWrite_report_effect s w s.cpu.a rfl⟩⟩

/-- Settles O5: the adjusted value is computed from the HL of the start, since the transfer does not write HL. -/
theorem postAdjustAfterTransfer : Obligations.PostAdjustAfterTransfer := by
  refine ⟨fun s => ?_, fun i r adj h hadj => (unadjusted_or i).resolve_left fun hall => hadj (of_decide_eq_true (hall _ h))⟩
  exact ⟨⟨_, (exec_instr .ldIndIncA s).trans (congrArg _ (ldIndIncA_eq s)), memWrite_setHl_report_effect s _ _ rfl⟩,
    ⟨_, (exec_instr .ldIndDecA s).trans (congrArg _ (ldIndDecA_eq s)), memWrite_setHl_report_effect s _ _ rfl⟩,
    ⟨_, exec_instr .ldAIndInc s, setA_setHl_report_effect s _ _ rfl⟩, ⟨_, exec_instr .ldAIndDec s, setA_setHl_report_effect s _ _ rfl⟩⟩

/-- Settles O6: a pair written reads back. -/
theorem loadsOfAPair : Obligations.LoadsOfAPair := fun p w s =>
  ⟨⟨_, exec_instr (.ldPairImm p w) s, s.pair_setPair p w, onlyPair_setPair s p w _, reports_report (s.setPair_cfg p w) rfl⟩,
    ⟨_, exec_instr .ldSpHl s, rfl, onlyPair_setPair s .sp s.hl _, reports_report rfl rfl⟩⟩

/-- Settles O7: two stores, the low byte first; the second address is the next one. -/
theorem storeOfSp : Obligations.StoreOfSp := by
  intro w s
  have hstores := storedTwice_memWrite s w (w + 1) (lo s.cpu.sp) (hi s.cpu.sp)
  refine ⟨_, exec_instr (.ldAbsSp w) s, ?_, ?_, hstores.outside, ?_, ?_, ?_, ?_⟩
  · exact (congrArg BitVec.toNat (memRead_memWrite_memWrite_succ s w _ _)).trans (lo_toNat _)
  · exact (congrArg BitVec.toNat (State.memRead_memWrite_self _ _ _)).trans (hi_toNat _)
  · rw [← hi_eq_ofNat, ← lo_eq_ofNat]
    exact hstores.of_onlyCpu ⟨rfl, rfl, rfl, rfl, rfl⟩
  · exact ((keepsCpu_memWrite _ s _ _).trans (keepsCpu_memWrite _ _ _ _)).trans ((OnlyRegsAndFlags.refl _ _).report _).keepsCpu
  · exact .of_eq (by simp [Form.run, ldAbsSp])
  · exact reports_report (by simp) rfl

/-- Settles O8: the sum modulo 2^16; the flags are those of the unsigned add of the low bytes. -/
theorem stackOffsetForms : Obligations.StackOffsetForms := by
  intro e s
  refine ⟨⟨_, exec_instr (.ldHlSpDisp e) s, ?_, ⟨rfl, rfl, rfl, rfl⟩,
      (((OnlyRegsAndFlags.refl _ s).setHl (by simp) (by simp) _).setFlags _).report _, reports_report rfl rfl⟩,
    ⟨_, exec_instr (.addSp e) s, toNat_add_sext s.cpu.sp e, ⟨rfl, rfl, rfl, rfl⟩, fun _ _ => rfl, rfl, ⟨rfl, rfl⟩, fun _ => rfl,
      ⟨rfl, rfl, rfl, rfl⟩, reports_report rfl rfl⟩⟩
  rw [← toNat_add_sext]
  exact congrArg (fun v : Word => (v.toNat : Int)) (State.hl_setPair_hl s _)

/-- Settles O16: a pair one more or less modulo 2^16, and no flag. -/
theorem incAndDecPair : Obligations.IncAndDecPair := by
  intro p s
  refine ⟨⟨_, exec_instr (.incPair p) s, ?_, onlyPair_setPair s p _ _, reports_report (s.setPair_cfg p _) rfl⟩,
    ⟨_, exec_instr (.decPair p) s, ?_, onlyPair_setPair s p _ _, reports_report (s.setPair_cfg p _) rfl⟩⟩
  · exact (congrArg BitVec.toNat (s.pair_setPair p _)).trans (BitVec.toNat_add _ _)
  · refine (congrArg BitVec.toNat (s.pair_setPair p _)).trans ((BitVec.toNat_sub _ _).trans ?_)
    rw [Nat.add_comm]
    rfl
end

section
/-! PROOFS. The instructions that compute on a byte or on HL (41_arith.md, 42_incdec.md, 43_bit_rotate.md, 46_misc.md): each result as a
number, each flag as the rule gives it. -/

namespace Sys2Proof.Machine

/-! ### The 8-bit ALU -/

/-- An effect of an ALU operation is its effect in each of the three forms, which differ in the source value and the count alone
(41_arith.md R161). -/
theorem inEveryAluForm_of_aluWith {op : Alu} {regCount memCount : Nat} {effect : Byte → State → State → Prop}
    (hreg : op.regCycles = regCount) (hmem : op.memCycles = memCount)
    (h : ∀ v s k, effect v s ((s.aluWith op v).report k)) : InEveryAluForm op regCount memCount memCount effect :=
  ⟨fun r s => ⟨_, exec_instr (.aluReg op r) s, h _ _ _, reports_report (s.aluWith_cfg op _) hreg⟩,
    fun s => ⟨_, exec_instr (.aluInd op) s, h _ _ _, reports_report (s.aluWith_cfg op _) hmem⟩,
    fun n s => ⟨_, exec_instr (.aluImm op n) s, h _ _ _, reports_report (s.aluWith_cfg op _) hmem⟩⟩

theorem onlyRegsAndFlags_aluWith (s : State) {op : Alu} (hop : op ≠ .cp) (v : Byte) (k : CycleKey) :
    OnlyRegsAndFlags [.a] s ((s.aluWith op v).report k) := by
  cases op with
  | cp => exact absurd rfl hop
  | _ => exact (((OnlyRegsAndFlags.refl _ s).setReg (by simp) _).setFlags _).report k

/-- The result of a subtraction is 0 exactly when the operands are equal. -/
theorem decide_sub_eq_zero (a b : Byte) : decide (a - b = 0) = decide (a = b) :=
  decide_eq_decide.2 sub_eq_zero

/-! ### One more and one less -/

theorem toNat_add_one (x : Byte) : (x + 1).toNat = (x.toNat + 1) % 256 := BitVec.toNat_add x 1

theorem toNat_sub_one (x : Byte) : (x - 1).toNat = (x.toNat + 255) % 256 :=
  (BitVec.toNat_sub x 1).trans (congrArg (· % 256) (Nat.add_comm _ _))

theorem add_one_eq_ofNat (x : Byte) : x + 1 = BitVec.ofNat 8 (x.toNat + 1) :=
  BitVec.eq_of_toNat_eq ((toNat_add_one x).trans (BitVec.toNat_ofNat _ 8).symm)

theorem sub_one_eq_ofNat (x : Byte) : x - 1 = BitVec.ofNat 8 (x.toNat + 255) :=
  BitVec.eq_of_toNat_eq ((toNat_sub_one x).trans (BitVec.toNat_ofNat _ 8).symm)

theorem add_one_eq_zero_iff (x : Byte) : x + 1 = 0 ↔ x.toNat = 255 := by
  have := x.isLt
  rw [← BitVec.toNat_inj, toNat_add_one, show (0 : Byte).toNat = 0 from rfl]
  omega

theorem sub_one_eq_zero_iff (x : Byte) : x - 1 = 0 ↔ x.toNat = 1 := by
  have := x.isLt
  rw [← BitVec.toNat_inj, toNat_sub_one, show (0 : Byte).toNat = 0 from rfl]
  omega

/-! ### Bits, rotates, nibbles -/

/-- The tested bit as a digit of the number (43_bit_rotate.md R200). -/
theorem not_getLsbD_eq_decide (v : Byte) (k : Nat) : (!v.getLsbD k) = decide (v.toNat / 2 ^ k % 2 = 0) := by
  rw [getLsbD_eq_decide, ← decide_not, decide_eq_decide]
  omega

theorem getLsbD_seven (v : Byte) : v.getLsbD 7 = decide (v.toNat ≥ 128) := by
  have := v.isLt
  rw [getLsbD_eq_decide, decide_eq_decide]
  omega

/-- 43_bit_rotate.md R202, R203: the rotate doubles the byte and adds the carry. -/
theorem rotateLeft_toNat : ∀ (v : Byte) (carry : Bool), (rotateLeft v carry).toNat = (2 * v.toNat + carry.toNat) % 256 := by
  decide +kernel

/-- 46_misc.md R244: the nibbles change places. -/
theorem swapNibbles_toNat : ∀ v : Byte, (swapNibbles v).toNat = v.toNat % 16 * 16 + v.toNat / 16 := by
  decide +kernel

theorem swapNibbles_eq_ofNat (v : Byte) : swapNibbles v = BitVec.ofNat 8 (v.toNat % 16 * 16 + v.toNat / 16) := by
  rw [← swapNibbles_toNat, BitVec.ofNat_toNat, BitVec.setWidth_eq]

/-- No bit is lost, so the swapped byte is 0 exactly when the byte is. -/
theorem swapNibbles_eq_zero_iff (v : Byte) : swapNibbles v = 0 ↔ v = 0 := by
  rw [← BitVec.toNat_inj, ← BitVec.toNat_inj, swapNibbles_toNat, show (0 : Byte).toNat = 0 from rfl]
  omega

/-- 46_misc.md R240: the complement. -/
theorem xor_ones_toNat (v : Byte) : (0xFF ^^^ v).toNat = 255 - v.toNat := by
  rw [show (0xFF ^^^ v : Byte) = ~~~v from BitVec.allOnes_xor, BitVec.toNat_not]

/-! ### A register, or the byte at HL, and the flags -/

section
variable (s : State) (r : Reg) (v : Byte) (f : Flags) {k : CycleKey} {n : Nat} (hk : k.figure = n)

theorem reg_setReg_setFlags_report : (((s.setReg r v).setFlags f).report k).reg r = v := by
  rw [State.report_reg, State.setFlags_reg, State.setReg_reg_self]

include hk

/-- What a register written, the flags written and a count reported leave. -/
theorem setReg_setFlags_report_effect :
    OnlyRegsAndFlags [r] s (((s.setReg r v).setFlags f).report k) ∧ Reports n s (((s.setReg r v).setFlags f).report k) :=
  ⟨(((OnlyRegsAndFlags.refl _ s).setReg (by simp) v).setFlags f).report k, reports_report (s.setReg_cfg r v) hk⟩

theorem setFlags_report_effect : OnlyRegsAndFlags [] s ((s.setFlags f).report k) ∧ Reports n s ((s.setFlags f).report k) :=
  ⟨((OnlyRegsAndFlags.refl _ s).setFlags f).report k, reports_report rfl hk⟩

theorem storeHl_setFlags_report_effect :
    KeepsCpu [] s (((s.storeHl v).setFlags f).report k) ∧ Reports n s (((s.storeHl v).setFlags f).report k) :=
  ⟨(keepsCpu_memWrite _ s s.hl v).trans (((OnlyRegsAndFlags.refl _ _).setFlags f).report k).keepsCpu,
    reports_report (s.memWrite_cfg s.hl v) hk⟩

end

/-- The byte stored at HL before the flags are written. -/
theorem stored_storeHl_setFlags_report (s : State) (v : Byte) (f : Flags) (k : CycleKey) :
    Stored s.hl v s (((s.storeHl v).setFlags f).report k) :=
  (stored_memWrite s s.hl v).of_onlyCpu ⟨rfl, rfl, rfl, rfl, rfl⟩

end Sys2Proof.Machine

open Sys2Proof Sys2Proof.Machine

/-- Settles O9: ADD is the sum without a carry, ADC the sum with it. -/
theorem addAndAdc : Obligations.AddAndAdc :=
  ⟨inEveryAluForm_of_aluWith rfl rfl fun v s k =>
      ⟨BitVec.toNat_ofNat _ _, ⟨rfl, rfl, rfl, rfl⟩, onlyRegsAndFlags_aluWith s (by decide) v k⟩,
    inEveryAluForm_of_aluWith rfl rfl fun v s k =>
      ⟨BitVec.toNat_ofNat _ _, ⟨rfl, rfl, rfl, rfl⟩, onlyRegsAndFlags_aluWith s (by decide) v k⟩⟩

/-- Settles O10: SUB and CP compute the same difference and flags; CP writes no register. -/
theorem subAndCp : Obligations.SubAndCp := by
  refine ⟨inEveryAluForm_of_aluWith rfl rfl fun v s k => ⟨?_, ⟨decide_sub_eq_zero _ _, rfl, rfl, rfl⟩,
      onlyRegsAndFlags_aluWith s (by decide) v k⟩,
    inEveryAluForm_of_aluWith rfl rfl fun v s k => ⟨⟨decide_sub_eq_zero _ _, rfl, rfl, rfl⟩,
      ((OnlyRegsAndFlags.refl _ s).setFlags _).report k⟩⟩
  have hv := v.isLt
  refine (BitVec.toNat_sub s.cpu.a v).trans (congrArg (· % 256) ?_)
  omega

/-- Settles O11: bit by bit; the opcodes are computed. -/
theorem andInEveryForm : Obligations.AndInEveryForm :=
  ⟨inEveryAluForm_of_aluWith rfl rfl fun v s k =>
      ⟨fun _ => BitVec.getLsbD_and, ⟨rfl, rfl, rfl, rfl⟩, onlyRegsAndFlags_aluWith s (by decide) v k⟩,
    fun r => by cases r <;> exact ⟨rfl, rfl⟩, ⟨rfl, rfl⟩, fun _ => ⟨rfl, rfl⟩⟩

/-- Settles O12: bit by bit; the opcodes are computed. -/
theorem xorAndOrInEveryForm : Obligations.XorAndOrInEveryForm :=
  ⟨inEveryAluForm_of_aluWith rfl rfl fun v s k =>
      ⟨fun _ => BitVec.getLsbD_xor, ⟨rfl, rfl, rfl, rfl⟩, onlyRegsAndFlags_aluWith s (by decide) v k⟩,
    inEveryAluForm_of_aluWith rfl rfl fun v s k =>
      ⟨fun _ => BitVec.getLsbD_or, ⟨rfl, rfl, rfl, rfl⟩, onlyRegsAndFlags_aluWith s (by decide) v k⟩,
    ⟨fun r => by cases r <;> exact ⟨rfl, rfl⟩, ⟨rfl, rfl⟩, fun _ => ⟨rfl, rfl⟩⟩,
    ⟨fun r => by cases r <;> exact ⟨rfl, rfl⟩, ⟨rfl, rfl⟩, fun _ => ⟨rfl, rfl⟩⟩⟩

/-- Settles O13: the sum modulo 2^16 in HL; Z is copied. -/
theorem addToHl : Obligations.AddToHl := fun p s =>
  ⟨_, exec_instr (.addHl p) s,
    (congrArg BitVec.toNat (s.hl_setPair_hl (s.hl + s.pair p))).trans (BitVec.toNat_add _ _), ⟨rfl, rfl, rfl, rfl⟩,
    (((OnlyRegsAndFlags.refl _ s).setHl (by simp) (by simp) _).setFlags _).report _, reports_report rfl rfl⟩

/-- Settles O14: the register one more or one less, and the flags of its old and new value. -/
theorem incAndDecRegister : Obligations.IncAndDecRegister := by
  intro r s
  refine ⟨⟨_, exec_instr (.incReg r) s, ?_, ⟨?_, rfl, rfl, rfl⟩, setReg_setFlags_report_effect s r _ _ rfl⟩,
    ⟨_, exec_instr (.decReg r) s, ?_, ⟨?_, rfl, rfl, rfl⟩, setReg_setFlags_report_effect s r _ _ rfl⟩⟩
  · exact (congrArg BitVec.toNat (reg_setReg_setFlags_report s r _ _)).trans (toNat_add_one _)
  · exact congrArg (fun v : Byte => decide (v = 0)) (reg_setReg_setFlags_report s r _ _).symm
  · exact (congrArg BitVec.toNat (reg_setReg_setFlags_report s r _ _)).trans (toNat_sub_one _)
  · exact congrArg (fun v : Byte => decide (v = 0)) (reg_setReg_setFlags_report s r _ _).symm

/-- Settles O15: the byte at HL is read, then stored one more or one less. -/
theorem incAndDecMemory : Obligations.IncAndDecMemory := by
  intro s
  refine ⟨⟨_, exec_instr .incInd s, ?_, ⟨decide_eq_decide.2 (add_one_eq_zero_iff _), rfl, rfl, rfl⟩,
      storeHl_setFlags_report_effect s _ _ rfl⟩,
    ⟨_, exec_instr .decInd s, ?_, ⟨decide_eq_decide.2 (sub_one_eq_zero_iff _), rfl, rfl, rfl⟩,
      storeHl_setFlags_report_effect s _ _ rfl⟩⟩
  · rw [← add_one_eq_ofNat]
    exact stored_storeHl_setFlags_report s _ _ _
  · rw [← sub_one_eq_ofNat]
    exact stored_storeHl_setFlags_report s _ _ _

/-- Settles O17: the tested bit as a digit; only the flags are written. -/
theorem bitTest : Obligations.BitTest := fun b r s =>
  ⟨⟨_, exec_instr (.bitReg b r) s, ⟨not_getLsbD_eq_decide _ _, rfl, rfl, rfl⟩, setFlags_report_effect s _ rfl⟩,
    ⟨_, exec_instr (.bitInd b) s, ⟨not_getLsbD_eq_decide _ _, rfl, rfl, rfl⟩, setFlags_report_effect s _ rfl⟩⟩

/-- Settles O18: one rotate, and two rules for Z. -/
theorem rotateLeftThroughCarry : Obligations.RotateLeftThroughCarry := by
  intro r s
  refine ⟨⟨_, exec_instr (.rlReg r) s, ?_, ⟨?_, rfl, rfl, getLsbD_seven _⟩, setReg_setFlags_report_effect s r _ _ rfl⟩,
    ⟨_, exec_instr .rla s, rotateLeft_toNat _ _, ⟨rfl, rfl, rfl, getLsbD_seven _⟩, setReg_setFlags_report_effect s .a _ _ rfl⟩⟩
  · exact (congrArg BitVec.toNat (reg_setReg_setFlags_report s r _ _)).trans (rotateLeft_toNat _ _)
  · exact congrArg (fun v : Byte => decide (v = 0)) (reg_setReg_setFlags_report s r _ _).symm

/-- Settles O25: the complement of A; Z and C are copied. -/
theorem complementOfA : Obligations.ComplementOfA := fun s =>
  ⟨_, exec_instr .cpl s, xor_ones_toNat s.cpu.a, ⟨rfl, rfl, rfl, rfl⟩, setReg_setFlags_report_effect s .a _ _ rfl⟩

/-- Settles O26: only the flags are written; the opcode is computed. -/
theorem setCarryFlag : Obligations.SetCarryFlag :=
  ⟨fun s => ⟨_, exec_instr .scf s, ⟨rfl, rfl, rfl, rfl⟩, setFlags_report_effect s _ rfl⟩, rfl, rfl⟩

/-- Settles O27: EI writes the delay alone, DI the delay and `ime`. -/
theorem enableAndDisableInterrupts : Obligations.EnableAndDisableInterrupts := fun s =>
  ⟨⟨_, exec_instr .ei s, rfl, rfl, fun _ _ => rfl, fun _ => rfl, rfl, rfl, fun _ => rfl, ⟨rfl, rfl, rfl, rfl⟩, reports_report rfl rfl⟩,
    ⟨_, exec_instr .di s, rfl, rfl, fun _ _ => rfl, fun _ => rfl, rfl, rfl, fun _ => rfl, ⟨rfl, rfl, rfl, rfl⟩, reports_report rfl rfl⟩⟩

/-- Settles O28: the nibbles of the register, or of the byte at HL, change places. -/
theorem swapNibbles : Obligations.SwapNibbles := by
  intro r s
  refine ⟨⟨_, exec_instr (.swapReg r) s, ?_, ⟨decide_eq_decide.2 (swapNibbles_eq_zero_iff _), rfl, rfl, rfl⟩,
      setReg_setFlags_report_effect s r _ _ rfl⟩,
    ⟨_, exec_instr .swapInd s, ?_, ⟨decide_eq_decide.2 (swapNibbles_eq_zero_iff _), rfl, rfl, rfl⟩,
      storeHl_setFlags_report_effect s _ _ rfl⟩⟩
  · exact (congrArg BitVec.toNat (reg_setReg_setFlags_report s r _ _)).trans (swapNibbles_toNat _)
  · rw [← swapNibbles_eq_ofNat]
    exact stored_storeHl_setFlags_report s _ _ _
end

section
/-! PROOFS. The jumps, calls, returns, pushes and pops (44_control.md, 45_stack.md): PC is already past the instruction, and a conditional
form is its unconditional one or a report alone. -/

namespace Sys2Proof.Machine

/-! ### What stays unchanged -/

theorem onlyPc_setPc_report (s : State) (v : Word) (k : CycleKey) : OnlyPc s ((s.setPc v).report k) :=
  ⟨fun _ _ => rfl, fun _ => rfl, rfl, ⟨rfl, rfl⟩, fun _ => rfl, ⟨rfl, rfl, rfl, rfl⟩⟩

theorem onlyPc_report (s : State) (k : CycleKey) : OnlyPc s (s.report k) :=
  ⟨fun _ _ => rfl, fun _ => rfl, rfl, ⟨rfl, rfl⟩, fun _ => rfl, ⟨rfl, rfl, rfl, rfl⟩⟩

/-- A push writes no register but SP (20_memory.md R57). -/
theorem push16_keeps (s : State) (v : Word) :
    KeepsRegs [] s (s.push16 v) ∧ KeepsFlags s (s.push16 v) ∧ KeepsPc s (s.push16 v) ∧ KeepsInterrupts s (s.push16 v) := by
  have hcpu := s.push16_cpu v
  refine ⟨fun r _ => ?_, .of_eq (by rw [hcpu]), by rw [KeepsPc, hcpu], by rw [KeepsInterrupts, hcpu]; exact ⟨rfl, rfl⟩⟩
  unfold State.reg
  rw [hcpu]

/-- 44_control.md R215: the address of the next instruction pushed, PC at the target, a count reported. -/
theorem push16_setPc_report_effect (s : State) (w : Word) {k : CycleKey} {n : Nat} (hk : k.figure = n) :
    Pushed s.cpu.pc s (((s.push16 s.cpu.pc).setPc w).report k) ∧ KeepsRegs [] s (((s.push16 s.cpu.pc).setPc w).report k) ∧
    KeepsFlags s (((s.push16 s.cpu.pc).setPc w).report k) ∧ KeepsInterrupts s (((s.push16 s.cpu.pc).setPc w).report k) ∧
    Reports n s (((s.push16 s.cpu.pc).setPc w).report k) := by
  obtain ⟨hregs, hflags, -, hinterrupts⟩ := push16_keeps s s.cpu.pc
  have hpushed := pushed_push16 s s.cpu.pc
  have hcfg := s.push16_cfg s.cpu.pc
  generalize s.push16 s.cpu.pc = t at *
  exact ⟨hpushed.of_onlyCpu ⟨rfl, rfl, rfl, rfl, rfl⟩ rfl, hregs, hflags, hinterrupts, reports_report hcfg hk⟩

/-- 44_control.md R217: a return's target in PC, SP up by 2, a count reported. -/
theorem dropTop_setPc_report_keeps (s : State) (v : Word) (k : CycleKey) :
    KeepsRegs [] s ((s.dropTop.setPc v).report k) ∧ KeepsFlags s ((s.dropTop.setPc v).report k) ∧
    KeepsInterrupts s ((s.dropTop.setPc v).report k) ∧ KeepsMemory s ((s.dropTop.setPc v).report k) ∧
    KeepsDevices s ((s.dropTop.setPc v).report k) :=
  ⟨fun _ _ => rfl, fun _ => rfl, ⟨rfl, rfl⟩, fun _ => rfl, ⟨rfl, rfl, rfl, rfl⟩⟩

/-! ### A conditional form -/

/-- Both outcomes of a conditional form from its two branches (10_state.md R32). -/
theorem exec_cond {f : Form} {s t u : State} {cc : Cond} {P : State → Prop}
    (hrun : Form.run f s = if s.cond cc = true then t else u) (ht : s.cond cc = true → P t) (hu : s.cond cc = false → P u) :
    ∃ v, exec f.instr s = .next v ∧ P v := by
  refine ⟨_, exec_instr f s, ?_⟩
  rw [hrun]
  split
  · exact ht ‹_›
  · exact hu (Bool.eq_false_iff.2 ‹_›)

/-- A clause about the other outcome holds of a branch for nothing. -/
theorem absurd_cond {b c : Bool} {P : Prop} (h : b = c) (h' : b = !c) : P := by
  subst h
  cases b <;> cases h'

/-! ### The halves that a pop loads -/

theorem hi_stackTop (s : State) : hi s.stackTop = s.memRead s.cpu.sp := hi_join _ _

theorem lo_stackTop (s : State) : lo s.stackTop = s.memRead (s.cpu.sp + 1) := lo_join _ _

end Sys2Proof.Machine

open Sys2Proof Sys2Proof.Machine

/-- Settles O19: PC is the target and nothing else changes. -/
theorem unconditionalJumps : Obligations.UnconditionalJumps := fun e w s =>
  ⟨⟨_, exec_instr (.jr e) s, toNat_add_sext s.cpu.pc e, onlyPc_setPc_report s _ _, reports_report rfl rfl⟩,
    ⟨_, exec_instr (.jp w) s, rfl, onlyPc_setPc_report s _ _, reports_report rfl rfl⟩,
    ⟨_, exec_instr .jpHl s, rfl, onlyPc_setPc_report s _ _, reports_report rfl rfl⟩⟩

/-- Settles O20: the condition picks the branch. -/
theorem conditionalJumps : Obligations.ConditionalJumps := fun cc e w s =>
  ⟨⟨rfl, rfl, rfl, rfl⟩,
    exec_cond (f := .jrCond cc e) rfl
      (fun h => ⟨onlyPc_setPc_report s _ _, fun _ => ⟨toNat_add_sext s.cpu.pc e, reports_report rfl rfl⟩, absurd_cond h⟩)
      fun h => ⟨onlyPc_report s _, absurd_cond h, fun _ => ⟨rfl, reports_report rfl rfl⟩⟩,
    exec_cond (f := .jpCond cc w) rfl
      (fun h => ⟨onlyPc_setPc_report s _ _, fun _ => ⟨rfl, reports_report rfl rfl⟩, absurd_cond h⟩)
      fun h => ⟨onlyPc_report s _, absurd_cond h, fun _ => ⟨rfl, reports_report rfl rfl⟩⟩⟩

/-- Settles O21: a push of PC, then the jump; a call not taken is a report alone. -/
theorem calls : Obligations.Calls := by
  intro cc w s
  obtain ⟨hpushed, hregs, hflags, hinterrupts, hreports⟩ := push16_setPc_report_effect s w (k := .call) rfl
  obtain ⟨hpushed', hregs', hflags', hinterrupts', hreports'⟩ := push16_setPc_report_effect s w (k := .callTaken) rfl
  exact ⟨⟨_, exec_instr (.call w) s, hpushed, rfl, hregs, hflags, hinterrupts, hreports⟩,
    exec_cond (f := .callCond cc w) rfl
      (fun h => ⟨hregs', hflags', hinterrupts', fun _ => ⟨hpushed', rfl, hreports'⟩, absurd_cond h⟩)
      fun h => ⟨fun _ _ => rfl, fun _ => rfl, ⟨rfl, rfl⟩, absurd_cond h,
        fun _ => ⟨(OnlyRegs.refl _ s).report _, reports_report rfl rfl⟩⟩⟩

/-- Settles O22: PC is the word at SP; a return not taken is a report alone. -/
theorem returns : Obligations.Returns := by
  intro cc s
  obtain ⟨hregs, hflags, hinterrupts, hmemory, hdevices⟩ := dropTop_setPc_report_keeps s s.stackTop .ret
  obtain ⟨hregs', hflags', hinterrupts', hmemory', hdevices'⟩ := dropTop_setPc_report_keeps s s.stackTop .retTaken
  refine ⟨⟨_, exec_instr .ret s, s.stackTop_toNat, rfl, hregs, hflags, hinterrupts, hmemory, hdevices, reports_report rfl rfl⟩,
    exec_cond (f := .retCond cc) rfl
      (fun h => ⟨hregs', hflags', hinterrupts', hmemory', hdevices',
        fun _ => ⟨s.stackTop_toNat, rfl, reports_report rfl rfl⟩, absurd_cond h⟩)
      fun h => ⟨fun _ _ => rfl, fun _ => rfl, ⟨rfl, rfl⟩, fun _ => rfl, ⟨rfl, rfl, rfl, rfl⟩, absurd_cond h,
        fun _ => ⟨rfl, rfl, reports_report rfl rfl⟩⟩,
    ⟨_, exec_instr .reti s, s.stackTop_toNat, rfl, rfl, rfl, hregs, hflags, hmemory, hdevices, reports_report rfl rfl⟩⟩

/-- Settles O23: the pair is read before SP moves. -/
theorem pushes : Obligations.Pushes := by
  intro q s
  have hrun : Form.run (.push q) s = (s.push16 (s.stackPair q)).report .push := rfl
  obtain ⟨hregs, hflags, hpc, hinterrupts⟩ := push16_keeps s (s.stackPair q)
  have hpushed := pushed_push16 s (s.stackPair q)
  have hcfg := s.push16_cfg (s.stackPair q)
  generalize s.push16 (s.stackPair q) = t at *
  exact ⟨_, (exec_instr (.push q) s).trans (congrArg _ hrun), hpushed.of_onlyCpu ⟨rfl, rfl, rfl, rfl, rfl⟩ rfl, hregs, hflags, hpc,
    hinterrupts, reports_report hcfg rfl⟩

/-- Settles O24: a pair popped is its two halves written after SP moved; AF's low half is the flags. -/
theorem pops : Obligations.Pops := by
  intro s
  have hregs (r q : Reg) : KeepsRegs [r, q] s ((s.dropTop.setReg r (hi s.stackTop)).setReg q (lo s.stackTop)) :=
    keepsRegs_setReg_setReg s.dropTop r q _ _
  have hregA : KeepsRegs [.a] s (s.dropTop.setReg .a (hi s.stackTop)) := ((OnlyRegs.refl _ s.dropTop).setReg (by simp) _).regs
  refine ⟨⟨_, exec_instr (.pop .bc) s, hi_stackTop s, lo_stackTop s, rfl, hregs .b .c, fun _ => rfl, rfl, ⟨rfl, rfl⟩, fun _ => rfl,
      ⟨rfl, rfl, rfl, rfl⟩, reports_report rfl rfl⟩,
    ⟨_, exec_instr (.pop .de) s, hi_stackTop s, lo_stackTop s, rfl, hregs .d .e, fun _ => rfl, rfl, ⟨rfl, rfl⟩, fun _ => rfl,
      ⟨rfl, rfl, rfl, rfl⟩, reports_report rfl rfl⟩,
    ⟨_, exec_instr (.pop .hl) s, hi_stackTop s, lo_stackTop s, rfl, hregs .h .l, fun _ => rfl, rfl, ⟨rfl, rfl⟩, fun _ => rfl,
      ⟨rfl, rfl, rfl, rfl⟩, reports_report rfl rfl⟩,
    ⟨_, exec_instr (.pop .af) s, hi_stackTop s, ?_, rfl, hregA, rfl, ⟨rfl, rfl⟩, fun _ => rfl,
      ⟨rfl, rfl, rfl, rfl⟩, reports_report rfl rfl⟩⟩
  rw [← lo_stackTop]
  exact ⟨rfl, rfl, rfl, rfl⟩
end
